-- ==== Sys2Proof/Word.lean ====
section
/-! DEFINITION. The plain value types of the CT24: bytes, the numbered objects (bells, axes) and the sets that the
Formats chapter (R201) writes as bits. Only types and their plainest arithmetic stand here. -/

namespace Sys2Proof

/-- One byte of a link frame or of the flash. -/
abbrev Byte := BitVec 8

/-- A bell number, 0 to 23 (Conventions, Numbering). -/
abbrev Bell := Fin 24

/-- An axis number, 0 to 7; a door is an axis of kind DOOR. -/
abbrev Axis := Fin 8

/-- A set of bells: bit n is bell n (R201). -/
abbrev BellSet := BitVec 24

/-- A set of axes: bit n is axis n (R201). -/
abbrev AxisSet := BitVec 8

/-- A set of notice kinds: bit n is kind n of 11.5 (R201). -/
abbrev KindSet := BitVec 24

/-- A set of level kinds in level order, BELL_WARM first (R203). -/
abbrev LevelSet := BitVec 8

/-- All bells in ascending number. -/
def allBells : List Bell :=
  [0, 1, 2, 3, 4, 5, 6, 7, 8, 9, 10, 11, 12, 13, 14, 15, 16, 17, 18, 19, 20, 21, 22, 23]

/-- All axes in ascending number. -/
def allAxes : List Axis := [0, 1, 2, 3, 4, 5, 6, 7]

end Sys2Proof
end

