-- ==== Sys2Proof/Config.lean ====
section
/-! DEFINITION. What a tower's installation fixes: the installation profile of the INSTALL record (R50, 11.4) as data,
the constants the manual prints, and the free values: the values the manual leaves open, as constants without a body. -/

namespace Sys2Proof

/-- Axis kinds in the order of 11.4. -/
inductive AxisKind where
  | rotary | linear | door
  deriving DecidableEq, Repr, Inhabited

/-- Direction policy of a ROTARY axis (R137). -/
inductive Policy where
  | forwardOnly | shortest
  deriving DecidableEq, Repr, Inhabited

/-- Follow mode of a follower (R146). -/
inductive FollowMode where
  | same | mirror
  deriving DecidableEq, Repr, Inhabited

/-- One bell's entry of the installation profile (11.4). Codes are 0 to 3 (table of chapter 6.2). -/
structure BellProfile where
  wmin : Nat
  wmax : Nat
  wlim : Nat
  current : Nat
  lead : Nat
  trec : Nat
  limitCode : BitVec 2
  blankCode : BitVec 2
  retryCode : BitVec 2
  autoretry : Bool
  hasDamper : Bool
  hasPickup : Bool
  dampTime : Nat
  verifyWindow : Nat
  k : Nat
  hwarn : Nat
  hmax : Nat
  deriving DecidableEq, Repr, Inhabited

/-- One axis's entry of the installation profile (11.4). `size` is the counts per revolution or the travel length. -/
structure AxisProfile where
  kind : AxisKind
  policy : Policy
  size : Nat
  poses : List Nat
  travelDuty : Nat
  creepDuty : Nat
  approach : Nat
  stallWindow : Nat
  travelTimeout : Nat
  limitCode : BitVec 2
  blankCode : BitVec 2
  retryCode : BitVec 2
  autoretry : Bool
  guardDoor : Option Axis
  leader : Option Axis
  follow : FollowMode
  deriving DecidableEq, Repr, Inhabited

/-- A working installation profile (R50). -/
structure Profile where
  bellsPresent : BellSet
  axesPresent : AxisSet
  iBudget : Nat
  vn : Nat
  vwarn : Nat
  vuv : Nat
  slackMs : Nat
  lateLimitS : Nat
  codaTimeoutS : Nat
  bells : Vector BellProfile 24
  axes : Vector AxisProfile 8
  deriving DecidableEq, Repr

namespace Config

/-- The store size of every range check of chapter 3 (3.1). -/
def storeSize : Nat := 16777216

/-- The span of the wall clock in microseconds: 36,525 days (1.2). -/
def spanMicros : Nat := 3155760000000000

/-- Triggers in the span: 96 a day (2.3). -/
def spanTriggers : Nat := 3506400

/-- The strike offset (R67). -/
def strikeOffset : Nat := 30000

/-- Identity fields of IDENT (R198): vendor code, part code, silicon revision, library format version. -/
def vendorCode : Nat := 0x52A7
def partCode : Nat := 0x0C24
def siliconRevision : Nat := 1
def formatVersion : Nat := 1

/-- FREE VALUE (log entry 7). What the Strike Unit reads as the profile entry of a bell that the working profile does not hold, at
a counter value: R110 lets a pulse in flight end after its bell left the profile, and no rule says which Trec (R100),
blanking time (R112) or fault codes (R115) it then reads. -/
opaque absentBell : Nat → Bell → BellProfile

/-- FREE VALUE (log entry 23). Whether a LINEAR axis that is given the very position it moves at as its target drives forward from there:
R137 names a direction only for a target above and below the position. -/
opaque linearTie : Nat → Bool

/-- FREE VALUE (log entry 8). The supply reading a pulse computation would use while Vm is none. R111 keeps every pulse from
starting before Vm is established, so no run from reset reads it. -/
opaque unestablishedVm : Nat → Nat

/-- FREE VALUE (log entry 52). Whether the SUPPLY that a walk ending NONE adds cuts the pulses in flight. R101, R117 and R174 say so of
every halt reason, R110 says that such a walk leaves them to end by R100, and no rule puts one before the other. -/
opaque walkEndCutsPulses : Bool

/-- FREE VALUE (log entry 79). Whether a halt reason added beside another cuts a pulse that such a walk left in flight. R101 and R117 say
so of every halt reason, R174 says that nothing more follows. -/
opaque laterHaltCutsPulses : Bool

end Config

end Sys2Proof
end

