-- ==== Sys2Proof/Syntax.lean ====
section
/-! DEFINITION. The commands of the CT24: one constructor per row of spec/opcode_table.json.

`dt` is the time that has passed on the microsecond counter since the command before (log entry 1): the table has no row
for the passing of time, and every command happens at an instant. A request command carries its TAG and its payload bytes
as they stand on the link (11.1, R201); an event on a pin carries the pin's number and its new level; the end of a Store
Port transfer carries the bytes the flash returned. -/

namespace Sys2Proof

/-- The two switches of a door (8.1): the OPEN switch is the far switch, the CLOSED switch the home switch. -/
inductive DoorSwitch where
  | open | closed
  deriving DecidableEq, Repr

inductive Instr where
  /-- Applying power or holding RESET_N low; the bit rate straps as sampled (R188). -/
  | powerOnReset (baud1 baud0 : Bool)
  | softReset (dt : Nat) (tag : Byte) (payload : List Byte)
  | softResetInstant (dt : Nat)
  | frameReceived (dt : Nat)
  /-- `framing`: the byte now received had its stop bit low (R188). -/
  | badFrame (dt : Nat) (framing : Bool)
  | frameGapTimeout (dt : Nat)
  | unknownKind (dt : Nat) (kind tag : Byte) (payload : List Byte)
  | ident (dt : Nat) (tag : Byte) (payload : List Byte)
  | getStatus (dt : Nat) (tag : Byte) (payload : List Byte)
  | setTime (dt : Nat) (tag : Byte) (payload : List Byte)
  | getTime (dt : Nat) (tag : Byte) (payload : List Byte)
  | setSeason (dt : Nat) (tag : Byte) (payload : List Byte)
  | getSeason (dt : Nat) (tag : Byte) (payload : List Byte)
  | setHour (dt : Nat) (tag : Byte) (payload : List Byte)
  | getHour (dt : Nat) (tag : Byte) (payload : List Byte)
  | playShow (dt : Nat) (tag : Byte) (payload : List Byte)
  | stopShow (dt : Nat) (tag : Byte) (payload : List Byte)
  | getQueue (dt : Nat) (tag : Byte) (payload : List Byte)
  | setState (dt : Nat) (tag : Byte) (payload : List Byte)
  | service (dt : Nat) (tag : Byte) (payload : List Byte)
  | resume (dt : Nat) (tag : Byte) (payload : List Byte)
  | setCodes (dt : Nat) (tag : Byte) (payload : List Byte)
  | strikeTest (dt : Nat) (tag : Byte) (payload : List Byte)
  | selfTest (dt : Nat) (tag : Byte) (payload : List Byte)
  | getSelfTest (dt : Nat) (tag : Byte) (payload : List Byte)
  | getBell (dt : Nat) (tag : Byte) (payload : List Byte)
  | counterSelect (dt : Nat) (tag : Byte) (payload : List Byte)
  | counterSnapshot (dt : Nat) (tag : Byte) (payload : List Byte)
  | readLog (dt : Nat) (tag : Byte) (payload : List Byte)
  | moveAxis (dt : Nat) (tag : Byte) (payload : List Byte)
  | homeAxis (dt : Nat) (tag : Byte) (payload : List Byte)
  | clearFaultBell (dt : Nat) (tag : Byte) (payload : List Byte)
  | clearFaultAxis (dt : Nat) (tag : Byte) (payload : List Byte)
  | getAxis (dt : Nat) (tag : Byte) (payload : List Byte)
  | getDoor (dt : Nat) (tag : Byte) (payload : List Byte)
  | storeRead (dt : Nat) (tag : Byte) (payload : List Byte)
  | storeWrite (dt : Nat) (tag : Byte) (payload : List Byte)
  | storeErase (dt : Nat) (tag : Byte) (payload : List Byte)
  | storeResult (dt : Nat) (tag : Byte) (payload : List Byte)
  | rescan (dt : Nat) (tag : Byte) (payload : List Byte)
  | getWalkReport (dt : Nat) (tag : Byte) (payload : List Byte)
  | setNoticeMask (dt : Nat) (tag : Byte) (payload : List Byte)
  | transmitEnd (dt : Nat)
  | wallSecondStart (dt : Nat)
  | slewHoldEnd (dt : Nat)
  | ppsEdge (dt : Nat)
  | ppsLossTimeout (dt : Nat)
  | nextTriggerHandled (dt : Nat)
  | heldLinkHeadDue (dt : Nat)
  | dueCountReached (dt : Nat)
  | preparationLimit (dt : Nat)
  | divisionInstant (dt : Nat)
  | waitLimitExpiry (dt : Nat)
  | prefetchReadEnd (dt : Nat) (data : List Byte)
  | stallTimeout (dt : Nat)
  | codaTimeout (dt : Nat)
  | supplyTimerExpiry (dt : Nat)
  | thermalTimerExpiry (dt : Nat)
  | selfTestHandoff (dt : Nat)
  | walkTransferEnd (dt : Nat) (data : List Byte)
  | walkStatusTimeout (dt : Nat)
  | storeTransferEnd (dt : Nat) (data : List Byte)
  | storeBusyTimeout (dt : Nat)
  | writeTimeout (dt : Nat)
  | eraseTimeout (dt : Nat)
  | strikeHeadDue (dt : Nat)
  | slackExpiry (dt : Nat)
  | pulseEnd (dt : Nat) (b : Bell)
  | recoveryEnd (dt : Nat) (b : Bell)
  | hlimChange (dt : Nat) (b : Bell) (active : Bool)
  | hprsActive (dt : Nat) (b : Bell) (active : Bool)
  | overCurrent (dt : Nat) (b : Bell)
  | presenceDeadline (dt : Nat) (b : Bell)
  | bellOffTimeEnd (dt : Nat) (b : Bell)
  | decayTick (dt : Nat)
  | dampEnd (dt : Nat) (b : Bell)
  | pickupEdge (dt : Nat) (b : Bell)
  | verifyWindowEnd (dt : Nat) (b : Bell)
  | axisCount (dt : Nat) (a : Axis)
  | reversalEnd (dt : Nat) (a : Axis)
  | dwellEnd (dt : Nat) (a : Axis)
  | homeSwitchChange (dt : Nat) (a : Axis) (active : Bool)
  | farSwitchActive (dt : Nat) (a : Axis) (active : Bool)
  | alimChange (dt : Nat) (a : Axis) (active : Bool)
  | axisStall (dt : Nat) (a : Axis)
  | travelTimeout (dt : Nat) (a : Axis)
  | axisOvercurrent (dt : Nat) (a : Axis)
  | axisOffTimeEnd (dt : Nat) (a : Axis)
  | doorSwitchChange (dt : Nat) (d : Axis) (sw : DoorSwitch) (active : Bool)
  | doorTimeout (dt : Nat) (d : Axis)
  | doorOvercurrent (dt : Nat) (d : Axis)
  | switchLost (dt : Nat) (d : Axis)
  | doorOffTimeEnd (dt : Nat) (d : Axis)
  | servicePress (dt : Nat)
  | lampToggle (dt : Nat)
  | hatchOpening (dt : Nat)
  | hatchClosed (dt : Nat)
  /-- `vhsense`: the voltage at the VHSENSE pin in microvolts (R176). -/
  | supplySample (dt : Nat) (vhsense : Nat)
  /-- `celsius`: the die sensor's reading (R178). -/
  | dieReading (dt : Nat) (celsius : Int)
  | codeBlockEnd (dt : Nat)
  /-- `high`: the CODE input at the instant of the bit (R179). -/
  | codeBit (dt : Nat) (high : Bool)
  | byteReceived (dt : Nat) (byte : Byte)
  | serviceReqChange (dt : Nat) (active : Bool)
  | hatchShowsClosed (dt : Nat)
  deriving DecidableEq, Repr

end Sys2Proof
end

