-- ==== Sys2Proof/Machine/State.lean ====
section
/-! DEFINITION. The state of the CT24 as plain data: the eight blocks of the introduction's block table, the input pins, and the
queue of waiting commands; the faults and refusals; the state right after power-on reset. -/

namespace Sys2Proof.Machine

/-! ## Time Base (chapter 1) -/

/-- PPS discipline (R5). -/
inductive Discipline where
  | freeRun | acquiring | locked
  deriving DecidableEq, Repr

/-- The source of a step (1.5). -/
inductive StepSource where
  | pps | host
  deriving DecidableEq, Repr

/-- A pending step (R9): its delta in microseconds and its source. -/
structure PendingStep where
  delta : Int
  source : StepSource
  deriving DecidableEq, Repr

/-- A tempo ramp (R18). `k` is the ramp division whose tempo stands; `fresh` is set from the RAMP event to the beginning of the
division it starts. -/
structure Ramp where
  t0 : Nat
  target : Nat
  len : Nat
  k : Nat
  fresh : Bool
  deriving DecidableEq, Repr

/-- A boundary the synthesizer has given (R16): the division's number and its event instant. -/
structure Boundary where
  division : Nat
  instant : Nat
  deriving DecidableEq, Repr

/-- The tempo synthesizer (R14 to R20). `divTempo` is the tempo of the division begun last, against which R15 judges a change;
`divEnd` is the end of the division being timed, none while a boundary is being carried out or held. -/
structure Synth where
  running : Bool
  boundary : Option Boundary
  divEnd : Option Nat
  tempo : Nat
  n : Nat
  r : Nat
  acc : Nat
  divTempo : Nat
  ramp : Option Ramp
  deriving DecidableEq, Repr

/-- The Time Base. `reading` is the wall clock as one number (1.2): microseconds since 2000-01-01 00:00:00.000000;
`second` is the number of the wall second whose start has been taken (R7); `holdEnd` is the end of a slew hold in progress. -/
structure TimeBase where
  counter : Nat
  reading : Nat
  second : Nat
  holdEnd : Option Nat
  timeSet : Bool
  discipline : Discipline
  prevEdge : Option Nat
  lastOffset : Option Int
  slew : Int
  pendingStep : Option PendingStep
  synth : Synth
  deriving DecidableEq, Repr

/-! ## Schedule Unit (chapter 2) -/

/-- Modes of a performance (2.2). -/
inductive Mode where
  | full | figuresOnly | bellsOnly | silent
  deriving DecidableEq, Repr

/-- One season table entry (2.1). -/
structure SeasonEntry where
  enabled : Bool
  startMonth : Nat
  startDay : Nat
  endMonth : Nat
  endDay : Nat
  weekdays : BitVec 7
  priority : Nat
  programme : Nat
  deriving DecidableEq, Repr

/-- The empty season entry (2.1). -/
def SeasonEntry.empty : SeasonEntry := ⟨false, 1, 1, 12, 31, 0, 0, 0⟩

/-- One hour entry of a programme (2.2); a show of none is NONE. -/
structure HourEntry where
  hourShow : Option Nat
  quarterShow : Option Nat
  mode : Mode
  deriving DecidableEq, Repr

/-- The empty hour entry (2.2). -/
def HourEntry.empty : HourEntry := ⟨none, none, .full⟩

/-- The last-posted trigger record (2.3). A trigger (date, hour, quarter) is held as its number
96 × (days since 2000-01-01) + 4 × hour + quarter. -/
inductive TriggerRecord where
  | named (trigger : Nat)
  | clearSince (reading : Nat)
  deriving DecidableEq, Repr

/-- Origins of a show request (R31). -/
inductive Origin where
  | hour | quarter | link
  deriving DecidableEq, Repr

/-- A show request (R31). `given` marks a LINK request whose start was a given instant (R33, R36). -/
structure ShowRequest where
  id : Nat
  origin : Origin
  count : Nat
  mode : Mode
  due : Nat
  posting : Nat
  given : Bool
  deriving DecidableEq, Repr

/-- The six schedule counters (R38). -/
structure ScheduleCounters where
  posted : Nat
  missing : Nat
  skipped : Nat
  suppressed : Nat
  droppedFull : Nat
  late : Nat
  deriving DecidableEq, Repr

structure ScheduleUnit where
  seasons : Vector SeasonEntry 16
  programmes : Vector (Vector HourEntry 24) 8
  activeSeason : Option Nat
  activeProgramme : Nat
  record : TriggerRecord
  queue : List ShowRequest
  counters : ScheduleCounters
  deriving DecidableEq, Repr

/-! ## Library Unit (chapter 3) -/

/-- Directory states (chapter 3). -/
inductive DirState where
  | absent | scanning | part | valid
  deriving DecidableEq, Repr

/-- A show directory entry (3.3): `address` and `length` are the record's, `tempos` is its tempo table (R202). -/
structure DirEntry where
  id : Nat
  address : Nat
  length : Nat
  scoreAddress : Nat
  scoreLength : Nat
  preroll : Nat
  startTempo : Nat
  tempos : List (Nat × Nat)
  doors : AxisSet
  axes : AxisSet
  bells : BellSet
  stale : Bool
  deriving DecidableEq, Repr

/-- A pose list (3.3): each step is a pose and a dwell in ms. -/
structure PoseList where
  loop : Bool
  steps : List (Nat × Nat)
  deriving DecidableEq, Repr

/-- Chain and end reasons of a walk (R46, R51). -/
inductive WalkReason where
  | chainEnd | backward | outOfRange | limit | headerBad | installMissing | installInvalid
  deriving DecidableEq, Repr

/-- Whether a failed profile check concerns the whole profile, a bell or an axis (R50). -/
inductive CheckScope where
  | global
  | bell (b : Nat)
  | axis (a : Nat)
  deriving DecidableEq, Repr

/-- The walk report (R53), but for the directory state, which it reports from its own field. -/
structure WalkReport where
  endReason : Option WalkReason
  chainReason : Option WalkReason
  visited : Nat
  badCrc : Nat
  duplicate : Nat
  unknown : Nat
  badContent : Nat
  showsLoaded : Nat
  listsLoaded : Nat
  emptySeasons : Nat
  emptyHours : Nat
  install : Option (Nat × Nat)
  seasons : Option (Nat × Nat)
  programmes : Option (Nat × Nat)
  failedCheck : Option (Nat × CheckScope)
  firstBad : Option Nat
  lastVisited : Option Nat
  dropped : Bool
  deriving DecidableEq, Repr

/-- The starting values of the walk report (R53). -/
def WalkReport.start : WalkReport :=
  ⟨none, none, 0, 0, 0, 0, 0, 0, 0, 0, 0, none, none, none, none, none, none, false⟩

/-- A record header as the walk read it (3.2). -/
structure RecordHeader where
  address : Nat
  kind : Nat
  id : Nat
  length : Nat
  next : Nat
  deriving DecidableEq, Repr

/-- Where a walk stands: polling the flash status (with the instant of the first status read's end), reading the library
header, reading a record header, or reading a whole record with the bytes got so far. -/
inductive WalkPhase where
  | poll (first : Option Nat)
  | header
  | recordHeader (address : Nat)
  | recordBody (h : RecordHeader) (got : List Byte)
  deriving DecidableEq, Repr

/-- A walk in progress: the INSTALL record found (none: not found; a refused one is `some none`), and the bodies of the
SEASONS and PROGRAMMES records to hand to the Schedule Unit at its end (R49, R51). -/
structure Walk where
  phase : WalkPhase
  install : Option (Option Profile)
  seasonsBody : Option (List Byte)
  programmesBody : Option (List Byte)
  deriving DecidableEq, Repr

/-- Kinds of link store operation (3.6). -/
inductive StoreKind where
  | read | write | erase | rescan
  deriving DecidableEq, Repr

/-- Results of a store operation (R58). -/
inductive StoreOutcome where
  | ok | timeout
  deriving DecidableEq, Repr

/-- Where a STORE_READ, STORE_WRITE or STORE_ERASE stands (R55 to R57): polling before it acts, reading, sending write enable,
programming or erasing, or polling after that transfer's end at `since`. -/
inductive StorePhase where
  | poll (first : Option Nat)
  | reading
  | writeEnable
  | change
  | after (since : Nat) (lastBusy : Bool)
  | walking
  deriving DecidableEq, Repr

/-- The link store operation in flight (R54, R58). -/
structure StoreOp where
  kind : StoreKind
  address : Nat
  length : Nat
  data : List Byte
  phase : StorePhase
  deriving DecidableEq, Repr

/-- The held store result (R58). -/
structure StoreResult where
  kind : StoreKind
  address : Nat
  length : Nat
  outcome : StoreOutcome
  data : List Byte
  deriving DecidableEq, Repr

/-- The five transfers of the Store Port (R41). -/
inductive Transfer where
  | read (address length : Nat)
  | writeEnable
  | pageProgram (address : Nat) (data : List Byte)
  | sectorErase (address : Nat)
  | readStatus
  deriving DecidableEq, Repr

/-- The three requesters of the Store Port (R42), in the order of their precedence. -/
inductive Requester where
  | walk | prefetch | store
  deriving DecidableEq, Repr

/-- The transfer the Store Port is carrying out. `discard` marks a transfer whose bytes are thrown away: a prefetch read that was
withdrawn (R42, R73), or the last status read of a store operation that has ended. -/
structure PortUse where
  requester : Requester
  transfer : Transfer
  discard : Bool
  deriving DecidableEq, Repr

/-- A pending prefetch read (R42, R72). -/
structure FetchRead where
  address : Nat
  length : Nat
  deriving DecidableEq, Repr

structure LibraryUnit where
  dirState : DirState
  directory : List DirEntry
  poseLists : Vector (Option PoseList) 32
  profile : Option Profile
  report : WalkReport
  walk : Option Walk
  storeOp : Option StoreOp
  storeResult : Option StoreResult
  port : Option PortUse
  prefetch : List FetchRead
  deriving DecidableEq, Repr

/-! ## Performance Engine (chapter 4) -/

/-- Engine states (4.1). -/
inductive EngineState where
  | idle | preparing | playing | coda | selfTest
  deriving DecidableEq, Repr

/-- Results of a performance, in the order of R84. -/
inductive PerfResult where
  | completed | abortedLink | abortedService | abortedSupply | abortedThermal | storeStall | scoreError | codaTimeout
  deriving DecidableEq, Repr

/-- The flags of a performance (R62). -/
structure PerfFlags where
  degraded : Bool
  lateStart : Bool
  tempoClamped : Bool
  mutedPart : Bool
  deriving DecidableEq, Repr

/-- The counters of a performance (R75). -/
structure PerfCounters where
  fired : Nat
  dropped : Nat
  misses : Nat
  stalls : Nat
  notPresent : Nat
  cuesSkipped : Nat
  waitTimeout : Nat
  deriving DecidableEq, Repr

/-- The current performance, or the last one while the engine is IDLE (R62, R83). `dueCount` may lie before the counter's 0. -/
structure Performance where
  request : ShowRequest
  seq : Nat
  entry : DirEntry
  dueCount : Int
  prepLimit : Int
  flags : PerfFlags
  excluded : AxisSet
  counters : PerfCounters
  startCount : Option Nat
  startWall : Option Nat
  endWall : Option Nat
  result : Option PerfResult
  deriving DecidableEq, Repr

/-- Whether the bytes of a count loop are retained (R73). -/
inductive Retention where
  | off | on | abandoned
  deriving DecidableEq, Repr

/-- The loop record of a count loop (R70). -/
structure LoopRecord where
  start : Nat
  remaining : Nat
  retention : Retention
  deriving DecidableEq, Repr

/-- The hold state of the engine (R69, R74). `met` marks a last-step arrival reported for the awaited axis (R142). -/
inductive Hold where
  | none
  | wait (axis : Axis) (limitAt : Nat) (met : Bool)
  | stall (since : Nat)
  deriving DecidableEq, Repr

/-- One event in the prefetch ring: its index in the score and its four bytes, the first most significant (11.5). -/
structure RingEvent where
  index : Nat
  word : BitVec 32
  deriving DecidableEq, Repr

/-- A performance log record (R84). -/
structure LogRecord where
  seq : Nat
  id : Nat
  origin : Origin
  count : Nat
  mode : Mode
  due : Nat
  start : Option Nat
  finish : Nat
  result : Option PerfResult
  flags : PerfFlags
  fired : Nat
  dropped : Nat
  misses : Nat
  stalls : Nat
  deriving DecidableEq, Repr

/-- Reasons a strike request is dropped (R91). -/
inductive DropReason where
  | overflow | muted | channelFault | late | thermal
  deriving DecidableEq, Repr

/-- Results of one bell in a self-test (R86, R87). -/
inductive BellResult where
  | notRun | absent | dropped (r : DropReason) | incomplete | pass | miss | noPickup
  deriving DecidableEq, Repr

/-- Causes of the end of a self-test (R87, R88). -/
inductive TestCause where
  | complete | muted | stopped
  deriving DecidableEq, Repr

/-- State of the self-test results (R88). -/
inductive TestState where
  | none | running | done (cause : TestCause)
  deriving DecidableEq, Repr

/-- The self-test (R86 to R88): its results, its start E, the present bells not yet handed over, the number handed over, the
bells handed over whose result is not known, and the cause of a stop. -/
structure SelfTest where
  state : TestState
  results : Vector BellResult 24
  start : Nat
  todo : List Bell
  handed : Nat
  outstanding : List Bell
  stopping : Option TestCause
  deriving DecidableEq, Repr

structure PerformanceEngine where
  engine : EngineState
  perf : Option Performance
  nextSeq : Nat
  log : List LogRecord
  ring : List RingEvent
  fetchAddress : Nat
  scoreRemaining : Nat
  loop : Option LoopRecord
  hold : Hold
  nextEvent : Nat
  baseDivision : Nat
  lastMark : Option Nat
  recoveryOwed : Bool
  supplyTimer : Option Nat
  thermalTimer : Option Nat
  demanded : AxisSet
  awaited : AxisSet
  codaAxes : AxisSet
  codaStart : Option Nat
  selfTest : SelfTest
  deriving DecidableEq, Repr

/-! ## Strike Unit (chapters 5 and 6) -/

/-- Origins of a strike request (R90). -/
inductive StrikeOrigin where
  | score | test | selfTest
  deriving DecidableEq, Repr

/-- A strike request (R90). -/
structure StrikeRequest where
  bell : Bell
  velocity : Nat
  due : Nat
  origin : StrikeOrigin
  seq : Option Nat
  deriving DecidableEq, Repr

/-- Hammer channel states (6.1). -/
inductive ChannelState where
  | ready | pulse | recovery | faultOff | retryReady | lockedOut
  deriving DecidableEq, Repr

/-- How a pulse ends (R100, R101). -/
inductive PulseEndKind where
  | clean | overcurrent | openCoil | halt
  deriving DecidableEq, Repr

/-- Fault kinds of a hammer channel (6.1). -/
inductive BellFaultKind where
  | overcurrent | openCoil
  deriving DecidableEq, Repr

/-- The last fault of a hammer channel (R119). -/
structure BellFault where
  kind : BellFaultKind
  at_ : Nat
  trip : Option Nat
  deriving DecidableEq, Repr

/-- Verification of a strike (R126). -/
inductive Verification where
  | none
  | open (windowEnd : Nat) (heard : Bool)
  | awaitingEnd (heard : Bool)
  deriving DecidableEq, Repr

/-- Verification outcomes of the last strike record (R131, R132). -/
inductive VerifyOutcome where
  | heard | miss | notVerified | noPickup | pending
  deriving DecidableEq, Repr

/-- The stage values of a pulse computation (R108). -/
structure Stages where
  vm : Nat
  vc : Nat
  w0 : Nat
  w1 : Nat
  w2 : Nat
  w3 : Nat
  heat : Nat
  deriving DecidableEq, Repr

/-- The outcome of a strike request (R108): fired, with the pulse's end once it has ended, or dropped. -/
inductive StrikeOutcome where
  | fired (ended : Option PulseEndKind)
  | dropped (reason : DropReason)
  deriving DecidableEq, Repr

/-- The last strike record of a bell (R108, R132). -/
structure LastStrike where
  origin : StrikeOrigin
  velocity : Nat
  due : Nat
  outcome : StrikeOutcome
  at_ : Nat
  stages : Option Stages
  verify : Option VerifyOutcome
  deriving DecidableEq, Repr

/-- A hammer and damper channel (6.1). `pulseStart` and `pulseEnd` are meaningful in PULSE. The fault watch (R112): `tripAt` is
the instant at which the present run of HLIM activity becomes an over-current, `presenceSeen` and `presenceJudged` belong to the
presence deadline (R114). `strike` is the request whose pulse or verification is not over. -/
structure Channel where
  state : ChannelState
  pulseStart : Nat
  pulseEnd : Nat
  tripAt : Option Nat
  presenceSeen : Bool
  presenceJudged : Bool
  trial : Bool
  admitted : Nat
  recoveryEnd : Option Nat
  offEnd : Option Nat
  faultCount : Nat
  lastFault : Option BellFault
  heat : Nat
  warm : Bool
  dampEnd : Option Nat
  missCount : Nat
  verification : Verification
  strike : Option StrikeRequest
  lastStrike : Option LastStrike
  deriving DecidableEq, Repr

/-- A channel after power-on reset (R111, R133). -/
def Channel.reset : Channel :=
  ⟨.ready, 0, 0, none, false, false, false, 0, none, none, 0, none, 0, false, none, 0, .none, none, none⟩

/-- Sources of the quality counter (R128). -/
inductive QualitySource where
  | misses | thermalDrops | lateDrops | allDrops
  deriving DecidableEq, Repr

/-- Modes of the quality counter (R129). -/
inductive QualityMode where
  | manual | auto
  deriving DecidableEq, Repr

structure QualityCounter where
  source : QualitySource
  mode : QualityMode
  count : Nat
  held : Nat
  fullReported : Bool
  deriving DecidableEq, Repr

/-- The six counters of the Strike Unit (R109). -/
structure StrikeCounters where
  fired : Nat
  overflow : Nat
  muted : Nat
  channelFault : Nat
  late : Nat
  thermal : Nat
  deriving DecidableEq, Repr

structure StrikeUnit where
  queue : List StrikeRequest
  sum : Nat
  channels : Vector Channel 24
  counters : StrikeCounters
  quality : QualityCounter
  deriving DecidableEq, Repr

/-! ## Motion Unit (chapters 7 and 8) -/

/-- Axis states (7.2). -/
inductive AxisState where
  | unreferenced | homing | idle | moving | dwelling | waitDoor | faultOff | lockedOut
  deriving DecidableEq, Repr

/-- Sources of a target (R138). -/
inductive TargetSource where
  | cue | list | host | home | leader
  deriving DecidableEq, Repr

structure Target where
  pos : Nat
  source : TargetSource
  pose : Option Nat
  deriving DecidableEq, Repr

/-- The list runner (R142), with the list's steps as read when it started and the instant its present round began. -/
structure Runner where
  list : Nat
  steps : List (Nat × Nat)
  step : Nat
  loop : Bool
  stopAfter : Bool
  roundStart : Nat
  deriving DecidableEq, Repr

inductive Direction where
  | forward | reverse
  deriving DecidableEq, Repr

inductive DutyClass where
  | travel | creep
  deriving DecidableEq, Repr

/-- A drive (R135, R148): its direction and duty class, the instants its travel timeout and its stall timer run from, and the end
of a reversal's dead time while both gates are inactive. -/
structure Drive where
  dir : Direction
  duty : DutyClass
  start : Nat
  stallFrom : Nat
  deadUntil : Option Nat
  deriving DecidableEq, Repr

inductive AxisFaultKind where
  | stall | overcurrent | timeout | limit
  deriving DecidableEq, Repr

structure AxisFault where
  kind : AxisFaultKind
  at_ : Nat
  trip : Option Nat
  deriving DecidableEq, Repr

/-- The axis record (7.2). `waitHoming` says, in WAIT_DOOR, that the axis waits to home; `tripAt` is the instant at which the
present run of ALIM activity becomes an over-current (R149). -/
structure AxisRecord where
  state : AxisState
  position : Nat
  referenced : Bool
  homeRequest : Bool
  target : Option Target
  held : Bool
  runner : Option Runner
  dwellEnd : Option Nat
  waitHoming : Bool
  drive : Option Drive
  tripAt : Option Nat
  faultCount : Nat
  lastFault : Option AxisFault
  offEnd : Option Nat
  dropped : Nat
  deriving DecidableEq, Repr

/-- An axis after reset (R156). -/
def AxisRecord.reset : AxisRecord :=
  ⟨.unreferenced, 0, false, false, none, false, none, none, false, none, none, 0, none, none, 0⟩

/-- Door states (R157). -/
inductive DoorState where
  | closed | opening | open | closing | fault
  deriving DecidableEq, Repr

/-- Sources of a close demand (R157). -/
inductive CloseSource where
  | pe | park | link | door
  deriving DecidableEq, Repr

inductive DoorFaultKind where
  | overcurrent | timeout | switchLost | halt | switches
  deriving DecidableEq, Repr

structure DoorFault where
  kind : DoorFaultKind
  at_ : Nat
  trip : Option Nat
  deriving DecidableEq, Repr

/-- The door record (R157). The open demand set (R158) is held as its axis members and the members PE and LINK. `openLost` is the
instant from which the OPEN switch of an OPEN door has been absent (R161). -/
structure DoorRecord where
  state : DoorState
  members : AxisSet
  pe : Bool
  link : Bool
  close : Option CloseSource
  faultCount : Nat
  lastFault : Option DoorFault
  offEnd : Option Nat
  release : Bool
  drive : Option Drive
  tripAt : Option Nat
  openLost : Option Nat
  deriving DecidableEq, Repr

/-- A door read at counter 0 with neither switch active (R157, R171). -/
def DoorRecord.reset : DoorRecord :=
  ⟨.fault, 0, false, false, none, 0, some ⟨.switches, 0, none⟩, none, true, none, none, none⟩

structure MotionUnit where
  axes : Vector AxisRecord 8
  doors : Vector DoorRecord 8
  deriving DecidableEq, Repr

/-! ## Supervision Unit (chapter 9) -/

/-- The mute reason set (9.1). -/
structure MuteSet where
  operator : Bool
  hush : Bool
  supply : Bool
  service : Bool
  thermal : Bool
  deriving DecidableEq, Repr

/-- Mute reasons in the order of 9.1. -/
inductive MuteReason where
  | operator | hush | supply | service | thermal
  deriving DecidableEq, Repr

inductive SupplyState where
  | normal | low | lockout
  deriving DecidableEq, Repr

inductive DieState where
  | normal | warn | shutdown
  deriving DecidableEq, Repr

/-- A code detector (R179). `bits` holds the last L + 1 bits, newest first; `blockOver` is set at a block's fiftieth bit until the
block is judged. -/
structure Detector where
  code : Byte
  len : Nat
  bits : List Bool
  received : Nat
  position : Nat
  hit : Bool
  disagreements : Nat
  blockOver : Bool
  passing : Nat
  failing : Nat
  present : Bool
  deriving DecidableEq, Repr

/-- A detector just restarted (R179). -/
def Detector.restarted (code : Byte) (len : Nat) : Detector :=
  ⟨code, len, [], 0, 0, false, 0, false, 0, 0, false⟩

/-- Modes of the code detectors (R181). -/
inductive CodeMode where
  | manual | auto
  deriving DecidableEq, Repr

/-- Presentation states (9.5), in the order of the Terms. -/
inductive Presentation where
  | locked | run | quiet | still | servicePending | serviceReady | service
  deriving DecidableEq, Repr

/-- The service lamp (R167): inactive, steadily active, or blinking with its present level and the instant of its next change. -/
inductive Lamp where
  | off
  | steady
  | blink (on : Bool) (next : Nat)
  deriving DecidableEq, Repr

/-- The Supervision Unit. `hatchClosedFrom` is the instant HATCH last began to show closed while the hatch state is OPEN (R169);
`reqFrom` is the instant SERVICE_REQ last changed, or the reset; `reqArmed` says that the present run of activity may give a press,
`reqSinceReset` that the present run of inactivity began at the reset (R167). -/
structure SupervisionUnit where
  mute : MuteSet
  supply : SupplyState
  samples : List Nat
  vm : Option Nat
  die : DieState
  dieReading : Option Int
  hushCode : Detector
  releaseCode : Detector
  codeMode : CodeMode
  presentation : Presentation
  parkOwed : Bool
  hatchOpen : Bool
  hatchClosedFrom : Option Nat
  reqFrom : Nat
  reqArmed : Bool
  reqSinceReset : Bool
  lamp : Lamp
  deriving DecidableEq, Repr

/-! ## Link Port (chapter 10) -/

/-- Notice kinds in the order of R203. -/
inductive Kind where
  | showStarted | showEnded | showDiscarded | mark | bellFault | bellWarm | axisFault | doorFault | supplyLow | supplyLockout
  | dieWarn | dieShutdown | hushCode | releaseCode | ppsLost | timeStepPending | timeStepped | storeDone | directoryReady
  | selfTestDone | counterReady | counterFull | serviceState | linkError
  deriving DecidableEq, Repr

/-- Level kinds in level order (R203). -/
inductive Level where
  | bellWarm | supplyLow | supplyLockout | dieWarn | dieShutdown | hushCode | releaseCode | ppsLost
  deriving DecidableEq, Repr

/-- Status codes of a reply, in the order of the table of 10.3. -/
inductive Status where
  | ok | accepted | deferred | busy | busyPerforming | refusedState | locked | badArgument | badLength | unknownKind
  | queueFull | notPresent
  deriving DecidableEq, Repr

/-- One field of a reply or a notice in the encodings of R201; `none` is an absent field. -/
inductive Field where
  | u8 (v : Option Nat)
  | u16 (v : Option Nat)
  | u24 (v : Option Nat)
  | u32 (v : Option Nat)
  | u64 (v : Option Nat)
  | s16 (v : Option Int)
  | s32 (v : Option Int)
  | s64 (v : Option Int)
  | wall (reading : Option Nat)
  | bytes (b : List Byte)
  deriving DecidableEq, Repr

/-- A received request: KIND, TAG and payload of its frame (10.2). -/
structure Request where
  kind : Byte
  tag : Byte
  payload : List Byte
  deriving DecidableEq, Repr

/-- A formed reply (R192): its request's KIND plus 0x80, the TAG, the status and the fields after it. -/
structure Reply where
  kind : Byte
  tag : Byte
  status : Status
  fields : List Field
  deriving DecidableEq, Repr

/-- The receive buffer (R189): hunting, or in frame with the bytes stored and the instant of the last one. -/
inductive RxBuffer where
  | hunting
  | inFrame (bytes : List Byte) (last : Nat)
  deriving DecidableEq, Repr

/-- The transmitter (R194): idle, sending a reply, or sending a NOTICE frame with its payload fields (R197). -/
inductive Transmitter where
  | idle
  | reply (r : Reply)
  | notice (fields : List Field)
  deriving DecidableEq, Repr

structure LinkPort where
  baud1 : Bool
  baud0 : Bool
  rx : RxBuffer
  requests : List Request
  replies : List Reply
  tx : Transmitter
  latch : KindSet
  transit : KindSet
  mask : KindSet
  both : LevelSet
  levels : LevelSet
  errors : Nat
  deriving DecidableEq, Repr

/-- The levels of the input pins that rules read as levels: HLIM and HPRS of the bells, ALIM and the two switches of the axes (the home
switch of a door is its CLOSED switch, its far switch the OPEN switch), SERVICE_REQ, and HATCH showing open. -/
structure Pins where
  hlim : BellSet
  hprs : BellSet
  alim : AxisSet
  home : AxisSet
  far : AxisSet
  serviceReq : Bool
  hatchOpen : Bool
  deriving DecidableEq, Repr

/-! ## The whole part -/

/-- The state of the part: its eight blocks, the levels at its input pins, and the commands that wait, first in, first out. -/
structure State where
  tb : TimeBase
  su : ScheduleUnit
  lu : LibraryUnit
  pe : PerformanceEngine
  st : StrikeUnit
  mu : MotionUnit
  sv : SupervisionUnit
  lp : LinkPort
  pins : Pins
  pending : List Instr
  deriving DecidableEq, Repr

/-- Why the part stops. The manual gives every command an effect in every state, so no meaning of this model answers with a
fault; the type has no constructor. -/
inductive Fault where
  deriving DecidableEq, Repr

/-- Why a command has no meaning. -/
inductive Refusal where
  /-- Raised by `exec` alone, for a command of the table that has no meaning yet. Safe: the model stops. No arm raises it now. -/
  | notModelled (mnemonic : String)
  deriving DecidableEq, Repr

/-! ## Reset values -/

/-- The synthesizer after either reset (R20). -/
def Synth.reset : Synth := ⟨false, none, none, 12000, 5208, 4000, 0, 12000, none⟩

/-- The Time Base after power-on reset (R13). -/
def TimeBase.reset : TimeBase :=
  ⟨0, 0, 0, none, false, .freeRun, none, none, 0, none, Synth.reset⟩

/-- The Schedule Unit after power-on reset (R40), its record clear since `reading`. -/
def ScheduleUnit.reset (reading : Nat) : ScheduleUnit :=
  ⟨Vector.replicate 16 SeasonEntry.empty, Vector.replicate 8 (Vector.replicate 24 HourEntry.empty), none, 0,
    .clearSince reading, [], ⟨0, 0, 0, 0, 0, 0⟩⟩

/-- A walk at its start (R43). -/
def Walk.start : Walk := ⟨.poll none, none, none, none⟩

/-- The Library Unit after a reset (R61), keeping the working profile given: the walk has begun and its first status read holds the
Store Port. -/
def LibraryUnit.reset (profile : Option Profile) : LibraryUnit :=
  ⟨.scanning, [], Vector.replicate 32 none, profile, WalkReport.start, some Walk.start, none, none,
    some ⟨.walk, .readStatus, false⟩, []⟩

/-- The self-test after a reset (R89). -/
def SelfTest.reset : SelfTest := ⟨.none, Vector.replicate 24 .notRun, 0, [], 0, [], none⟩

/-- The Performance Engine after either reset (R89). -/
def PerformanceEngine.reset : PerformanceEngine :=
  ⟨.idle, none, 0, [], [], 0, 0, none, .none, 0, 0, none, false, none, none, 0, 0, 0, none, SelfTest.reset⟩

/-- The quality counter after either reset (R133). -/
def QualityCounter.reset : QualityCounter := ⟨.misses, .manual, 0, 0, false⟩

/-- The Strike Unit after power-on reset (R111, R133). -/
def StrikeUnit.reset : StrikeUnit :=
  ⟨[], 0, Vector.replicate 24 Channel.reset, ⟨0, 0, 0, 0, 0, 0⟩, QualityCounter.reset⟩

/-- The Motion Unit after power-on reset with no switch active (R156, R171). -/
def MotionUnit.reset : MotionUnit :=
  ⟨Vector.replicate 8 AxisRecord.reset, Vector.replicate 8 DoorRecord.reset⟩

/-- The Supervision Unit after either reset at a counter value, with HATCH and SERVICE_REQ at the levels given (R171, R187). -/
def SupervisionUnit.reset (now : Nat) (hatchOpen reqActive : Bool) : SupervisionUnit :=
  { mute := ⟨false, false, true, hatchOpen, false⟩
    supply := .lockout
    samples := []
    vm := none
    die := .normal
    dieReading := none
    hushCode := Detector.restarted 0x01 5
    releaseCode := Detector.restarted 0x09 6
    codeMode := .manual
    presentation := if hatchOpen then .service else .locked
    parkOwed := false
    hatchOpen := hatchOpen
    hatchClosedFrom := none
    reqFrom := now
    reqArmed := false
    reqSinceReset := !reqActive
    lamp := if hatchOpen then .steady else .off }

/-- The Link Port after a reset (R195, R196, R200): the bit rate straps and the starting levels given. -/
def LinkPort.reset (baud1 baud0 : Bool) (levels : LevelSet) : LinkPort :=
  ⟨baud1, baud0, .hunting, [], [], .idle, 0, 0, 0, 0, levels, 0⟩

/-- The starting levels at power-on (R195): PPS_LOST and SUPPLY_LOCKOUT true. -/
def powerOnLevels : LevelSet := 0x84

/-- Every input inactive and the hatch closed: the levels this model starts from (DESIGN CHOICE, log entry 3). -/
def Pins.reset : Pins := ⟨0, 0, 0, 0, 0, false, false⟩

/-- The part right after power-on reset, its inputs inactive and its bit rate straps low (log entry 3), no command waiting. -/
def State.reset : State :=
  { tb := TimeBase.reset
    su := ScheduleUnit.reset 0
    lu := LibraryUnit.reset none
    pe := PerformanceEngine.reset
    st := StrikeUnit.reset
    mu := MotionUnit.reset
    sv := SupervisionUnit.reset 0 false false
    lp := LinkPort.reset false false powerOnLevels
    pins := Pins.reset
    pending := [] }

end Sys2Proof.Machine
end

