-- ==== Sys2Proof/Machine/Ops.lean ====
section
/-! DEFINITION. The named operations over the state: the blocks' updates, the passing of time, sets of bells and axes, the records of
bells, axes and doors, what the working profile says of them, and the conditions many rules read (LOCKED, halted, muted). -/

namespace Sys2Proof.Machine

/-! ## Updating one block -/

def State.modTb (s : State) (f : TimeBase → TimeBase) : State := { s with tb := f s.tb }
def State.modSu (s : State) (f : ScheduleUnit → ScheduleUnit) : State := { s with su := f s.su }
def State.modLu (s : State) (f : LibraryUnit → LibraryUnit) : State := { s with lu := f s.lu }
def State.modPe (s : State) (f : PerformanceEngine → PerformanceEngine) : State := { s with pe := f s.pe }
def State.modSt (s : State) (f : StrikeUnit → StrikeUnit) : State := { s with st := f s.st }
def State.modMu (s : State) (f : MotionUnit → MotionUnit) : State := { s with mu := f s.mu }
def State.modSv (s : State) (f : SupervisionUnit → SupervisionUnit) : State := { s with sv := f s.sv }
def State.modLp (s : State) (f : LinkPort → LinkPort) : State := { s with lp := f s.lp }
def State.modPins (s : State) (f : Pins → Pins) : State := { s with pins := f s.pins }

/-! ## Time -/

/-- The microsecond counter (R1). -/
def State.now (s : State) : Nat := s.tb.counter

/-- `dt` microseconds pass: the counter advances (R1), and with it the wall reading unless a slew hold is in progress (R2, R7). The
carry of the second is WALL_SECOND_START's. -/
def elapse (dt : Nat) (s : State) : State :=
  s.modTb fun t =>
    { t with
      counter := t.counter + dt
      reading := if t.holdEnd.isSome then t.reading else t.reading + dt }

/-! ## Counters and sets -/

/-- A 16-bit counter raised by one, saturating (Conventions, Arithmetic). -/
def satInc (n : Nat) : Nat := min (n + 1) 65535

/-- A set with member `i` put in or taken out. -/
def putBit {w : Nat} (x : BitVec w) (i : Nat) (v : Bool) : BitVec w :=
  if v then x ||| (BitVec.ofNat w 1 <<< i) else x &&& ~~~(BitVec.ofNat w 1 <<< i)

/-- The set of the list's numbers that satisfy `p`. -/
def setOf {n w : Nat} (p : Fin n → Bool) : List (Fin n) → BitVec w
  | [] => 0
  | i :: rest => if p i then putBit (setOf p rest) i.val true else setOf p rest

/-- Apply an update for each member of a list, in order. -/
def forEach {α : Type} (f : α → State → State) : List α → State → State
  | [], s => s
  | x :: rest, s => forEach f rest (f x s)

/-! ## Records by number -/

def State.chan (s : State) (b : Bell) : Channel := s.st.channels[b]
def State.axis (s : State) (a : Axis) : AxisRecord := s.mu.axes[a]
def State.door (s : State) (d : Axis) : DoorRecord := s.mu.doors[d]

def State.modChan (s : State) (b : Bell) (f : Channel → Channel) : State :=
  s.modSt fun u => { u with channels := u.channels.set b (f u.channels[b]) }
def State.modAxis (s : State) (a : Axis) (f : AxisRecord → AxisRecord) : State :=
  s.modMu fun u => { u with axes := u.axes.set a (f u.axes[a]) }
def State.modDoor (s : State) (d : Axis) (f : DoorRecord → DoorRecord) : State :=
  s.modMu fun u => { u with doors := u.doors.set d (f u.doors[d]) }

/-! ## What the working profile says -/

/-- The bell is in the working profile's bells-present set; absent while there is no working profile (R51). -/
def State.bellPresent (s : State) (b : Bell) : Bool :=
  match s.lu.profile with
  | none => false
  | some p => p.bellsPresent.getLsbD b.val

/-- The profile entry the Strike Unit reads for a bell: the working profile's, or, for a bell it does not hold, the free value of
log entry 7. -/
def State.bellProfile (s : State) (b : Bell) : BellProfile :=
  match s.lu.profile with
  | none => Config.absentBell s.now b
  | some p => if p.bellsPresent.getLsbD b.val then p.bells[b] else Config.absentBell s.now b

/-- The profile entry of a present axis, doors included (R134). -/
def State.axisProfile (s : State) (a : Axis) : Option AxisProfile :=
  match s.lu.profile with
  | none => none
  | some p => if p.axesPresent.getLsbD a.val then some p.axes[a] else none

/-- A present axis of kind ROTARY or LINEAR. -/
def State.isFigure (s : State) (a : Axis) : Bool :=
  match s.axisProfile a with
  | none => false
  | some p => p.kind != .door

/-- A present axis of kind DOOR. -/
def State.isDoor (s : State) (a : Axis) : Bool :=
  match s.axisProfile a with
  | none => false
  | some p => p.kind == .door

/-- The guard door of a present axis (R134). -/
def State.guardDoor (s : State) (a : Axis) : Option Axis := (s.axisProfile a).bind (·.guardDoor)

/-- The leader of a present axis (R134). -/
def State.leader (s : State) (a : Axis) : Option Axis := (s.axisProfile a).bind (·.leader)

/-- The guarded axes of a door (R158): the present figure axes whose guard door it is. -/
def State.isGuarded (s : State) (d a : Axis) : Bool := s.isFigure a && s.guardDoor a == some d

/-- Blanking time in microseconds by its code (table of 6.2). -/
def blankingTime (code : BitVec 2) : Nat := [50, 100, 200, 500].getD code.toNat 0

/-- Retry off-time in microseconds by its code (table of 6.2). -/
def retryOffTime (code : BitVec 2) : Nat := [100000, 250000, 500000, 1000000].getD code.toNat 0

/-- Current-limit trip level in mA by its code (table of 6.2). -/
def tripLevel (code : BitVec 2) : Nat := [1000, 2000, 3000, 4000].getD code.toNat 0

/-! ## Conditions -/

/-- The part is LOCKED while the directory state is NONE or SCANNING (R52). -/
def State.partLocked (s : State) : Bool :=
  match s.lu.dirState with
  | .absent | .scanning => true
  | .part | .valid => false

/-- The halt subset is not empty (R172). -/
def MuteSet.halted (m : MuteSet) : Bool := m.supply || m.service || m.thermal

/-- The mute reason set is not empty (R172). -/
def MuteSet.muted (m : MuteSet) : Bool := m.operator || m.hush || m.halted

def State.halted (s : State) : Bool := s.sv.mute.halted
def State.muted (s : State) : Bool := s.sv.mute.muted

/-- The presentation state is RUN or QUIET. -/
def State.presenting (s : State) : Bool :=
  match s.sv.presentation with
  | .run | .quiet => true
  | .locked | .still | .servicePending | .serviceReady | .service => false

def State.engineIdle (s : State) : Bool := s.pe.engine == .idle

/-- The engine is in PREPARING, PLAYING or CODA: a performance is current (R62). -/
def State.performing (s : State) : Bool :=
  match s.pe.engine with
  | .preparing | .playing | .coda => true
  | .idle | .selfTest => false

/-- The directory's entry for a show id (R47). -/
def State.entryOf (s : State) (id : Nat) : Option DirEntry := s.lu.directory.find? (·.id == id)

/-- The working profile's late limit in microseconds; none while there is no working profile. -/
def State.lateLimit (s : State) : Option Nat := s.lu.profile.map (·.lateLimitS * 1000000)

/-! ## Output pins -/

/-- The hammer gate is active exactly while the channel is in PULSE (6.1). -/
def hammerGate (s : State) (b : Bell) : Bool := (s.chan b).state == .pulse

/-- The damper output (R123, R124). -/
def damperOut (s : State) (b : Bell) : Bool := (s.chan b).dampEnd.isSome

/-- A gate of a drive is switched unless a reversal's dead time runs (R135). -/
def Drive.gate (d : Drive) (dir : Direction) : Bool := d.dir == dir && d.deadUntil.isNone

/-- The forward or reverse gate of an axis or door is switched (R135, R157). -/
def axisGate (s : State) (a : Axis) (dir : Direction) : Bool :=
  ((s.axis a).drive.any (·.gate dir)) || ((s.door a).drive.any (·.gate dir))

/-- The duty of a duty class (R137). -/
def dutyOf (p : AxisProfile) : DutyClass → Nat
  | .travel => p.travelDuty
  | .creep => p.creepDuty

/-- The duty of a switched gate, out of 255 parts of each 64 µs period: an axis's by its duty class, a door's at its travel duty; 0 while
the gate is inactive (R135, R157). -/
def gateDuty (s : State) (a : Axis) (dir : Direction) : Nat :=
  match s.axisProfile a with
  | none => 0
  | some p =>
    if (s.axis a).drive.any (·.gate dir) then (((s.axis a).drive.map fun d => dutyOf p d.duty).getD 0)
    else if (s.door a).drive.any (·.gate dir) then p.travelDuty
    else 0

/-- HAMMER_PWR_EN and MOTOR_PWR_EN (R175). -/
def powerEnable (s : State) : Bool := !s.halted

/-- The bit rate in bit/s, by the straps as sampled (R188). -/
def LinkPort.bitRate (l : LinkPort) : Nat :=
  match l.baud1, l.baud0 with
  | false, false => 57600
  | false, true => 115200
  | true, false => 230400
  | true, true => 460800

/-- The bit times a frame of `n` bytes occupies TXD: 10 a byte (R188). -/
def frameBitTimes (n : Nat) : Nat := 10 * n

/-- ATTN is driven while a kind is latched or in transit (R197). -/
def attnDriven (s : State) : Bool := s.lp.latch != 0 || s.lp.transit != 0

/-- SERVICE_LAMP (R167). -/
def lampLit (s : State) : Bool :=
  match s.sv.lamp with
  | .off => false
  | .steady => true
  | .blink on _ => on

end Sys2Proof.Machine
end

