-- ==== Sys2Proof/Machine/Calendar.lean ====
section
/-! DEFINITION. The calendar of the wall clock (R2): dates, times of day and weekdays as functions of the reading, and back. -/

namespace Sys2Proof.Machine

/-- Microseconds in a day, an hour, a minute and a second. -/
def dayMicros : Nat := 86400000000
def hourMicros : Nat := 3600000000
def minuteMicros : Nat := 60000000
def secondMicros : Nat := 1000000

/-- A date, a time of day and the microsecond within the second (1.2). -/
structure DateTime where
  year : Nat
  month : Nat
  day : Nat
  hour : Nat
  minute : Nat
  second : Nat
  micro : Nat
  deriving DecidableEq, Repr

/-- The months' lengths in a year from 2000 to 2099 (R2). -/
def monthLengths (year : Nat) : List Nat :=
  [31, if year % 4 = 0 then 29 else 28, 31, 30, 31, 30, 31, 31, 30, 31, 30, 31]

/-- The last day of a month; 0 for a month that does not exist. -/
def lastDay (year month : Nat) : Nat := if month = 0 then 0 else (monthLengths year).getD (month - 1) 0

/-- Days since 2000-01-01 of a date. -/
def dayNumber (year month day : Nat) : Nat :=
  (year - 2000) * 365 + (year - 2000 + 3) / 4 + ((monthLengths year).take (month - 1)).sum + (day - 1)

/-- The year of a day number: four years from a leap year on hold 1461 days. -/
def yearOfDay (d : Nat) : Nat :=
  2000 + 4 * (d / 1461) + (if d % 1461 < 366 then 0 else 1 + (d % 1461 - 366) / 365)

/-- The day within its year, from 0. -/
def dayOfYear (d : Nat) : Nat :=
  if d % 1461 < 366 then d % 1461 else (d % 1461 - 366) % 365

/-- Month and day of a day within the months that are left, the first of them numbered `m`. -/
def monthAndDay : List Nat → Nat → Nat → Nat × Nat
  | [], m, r => (m, r + 1)
  | l :: rest, m, r => if r < l then (m, r + 1) else monthAndDay rest (m + 1) (r - l)

/-- Month and day of a day number. -/
def monthDayOf (d : Nat) : Nat × Nat := monthAndDay (monthLengths (yearOfDay d)) 1 (dayOfYear d)

/-- The weekday of a day number, 0 for Monday (R2). -/
def weekdayOf (d : Nat) : Nat := (d + 5) % 7

/-- The fields of a reading. -/
def dateTimeOf (reading : Nat) : DateTime :=
  let d := reading / dayMicros
  let r := reading % dayMicros
  { year := yearOfDay d
    month := (monthDayOf d).1
    day := (monthDayOf d).2
    hour := r / hourMicros
    minute := r % hourMicros / minuteMicros
    second := r % minuteMicros / secondMicros
    micro := r % secondMicros }

/-- A date and time as a reading (1.2). -/
def readingOf (t : DateTime) : Nat :=
  dayNumber t.year t.month t.day * dayMicros + t.hour * hourMicros + t.minute * minuteMicros +
    t.second * secondMicros + t.micro

/-- The checks SET_TIME makes of a date and time (R11). -/
def validDateTime (t : DateTime) : Bool :=
  decide (2000 ≤ t.year ∧ t.year ≤ 2099 ∧ 1 ≤ t.month ∧ t.month ≤ 12 ∧ 1 ≤ t.day ∧ t.day ≤ lastDay t.year t.month ∧
    t.hour ≤ 23 ∧ t.minute ≤ 59 ∧ t.second ≤ 59 ∧ t.micro ≤ 999999)

/-- The microsecond-within-second field (R2). It passes 999,999 only between the end of a second and WALL_SECOND_START. -/
def microField (s : State) : Nat := s.tb.reading - s.tb.second * secondMicros

end Sys2Proof.Machine
end

