-- ==== Sys2Proof/Machine/Flags.lean ====
section
/-! DEFINITION. The notice flags: the latch set, the level record and how kinds enter them (R195, R196), and the numbering of
the enumerated values (R201). -/

namespace Sys2Proof.Machine

/-- Number of a notice kind (R203). -/
def Kind.num : Kind → Nat
  | .showStarted => 0 | .showEnded => 1 | .showDiscarded => 2 | .mark => 3 | .bellFault => 4 | .bellWarm => 5
  | .axisFault => 6 | .doorFault => 7 | .supplyLow => 8 | .supplyLockout => 9 | .dieWarn => 10 | .dieShutdown => 11
  | .hushCode => 12 | .releaseCode => 13 | .ppsLost => 14 | .timeStepPending => 15 | .timeStepped => 16 | .storeDone => 17
  | .directoryReady => 18 | .selfTestDone => 19 | .counterReady => 20 | .counterFull => 21 | .serviceState => 22
  | .linkError => 23

/-- Number of a level in level order (R203). -/
def Level.num : Level → Nat
  | .bellWarm => 0 | .supplyLow => 1 | .supplyLockout => 2 | .dieWarn => 3 | .dieShutdown => 4 | .hushCode => 5
  | .releaseCode => 6 | .ppsLost => 7

/-- The notice kind of a level (10.5). -/
def Level.kind : Level → Kind
  | .bellWarm => .bellWarm | .supplyLow => .supplyLow | .supplyLockout => .supplyLockout | .dieWarn => .dieWarn
  | .dieShutdown => .dieShutdown | .hushCode => .hushCode | .releaseCode => .releaseCode | .ppsLost => .ppsLost

/-- A kind put into the latch set unless it is masked (R195). -/
def LinkPort.latchKind (k : Kind) (l : LinkPort) : LinkPort :=
  if l.mask.getLsbD k.num then l else { l with latch := putBit l.latch k.num true }

/-- A block raises an event kind (R195). -/
def raise (k : Kind) (s : State) : State := s.modLp (·.latchKind k)

/-- A block reports a level (R195): the record takes a new value, and the kind is latched by its edge selection. -/
def LinkPort.report (v : Level) (on : Bool) (l : LinkPort) : LinkPort :=
  if l.levels.getLsbD v.num == on then l
  else
    let l' := { l with levels := putBit l.levels v.num on }
    if on || l.both.getLsbD v.num then l'.latchKind v.kind else l'

def setLevel (v : Level) (on : Bool) (s : State) : State := s.modLp (·.report v on)

/-- A link error is counted and LINK_ERROR latched (R190). -/
def linkError (s : State) : State :=
  raise .linkError (s.modLp fun l => { l with errors := satInc l.errors })

/-! ## Enumerated values, numbered from 0 in the order their rule lists them (R201) -/

def Discipline.num : Discipline → Nat
  | .freeRun => 0 | .acquiring => 1 | .locked => 2
def StepSource.num : StepSource → Nat
  | .pps => 0 | .host => 1
def Mode.num : Mode → Nat
  | .full => 0 | .figuresOnly => 1 | .bellsOnly => 2 | .silent => 3
def Mode.ofNum : Nat → Option Mode
  | 0 => some .full | 1 => some .figuresOnly | 2 => some .bellsOnly | 3 => some .silent | _ => none
def Origin.num : Origin → Nat
  | .hour => 0 | .quarter => 1 | .link => 2
/-- Directory states. DESIGN CHOICE (log entry 75): in the order of the Terms, since no rule lists all four. -/
def DirState.num : DirState → Nat
  | .absent => 0 | .scanning => 1 | .part => 2 | .valid => 3
/-- End reasons, in the order in which R51, step 2, lists them. -/
def WalkReason.num : WalkReason → Nat
  | .headerBad => 0 | .installMissing => 1 | .installInvalid => 2 | .chainEnd => 3 | .backward => 4 | .outOfRange => 5
  | .limit => 6
/-- Chain reasons, in the order of the table of R46; no chain reason is any of the other three. -/
def WalkReason.chainNum : WalkReason → Option Nat
  | .chainEnd => some 0 | .backward => some 1 | .outOfRange => some 2 | .limit => some 3
  | .headerBad | .installMissing | .installInvalid => none
def StoreKind.num : StoreKind → Nat
  | .read => 0 | .write => 1 | .erase => 2 | .rescan => 3
def StoreOutcome.num : StoreOutcome → Nat
  | .ok => 0 | .timeout => 1
def EngineState.num : EngineState → Nat
  | .idle => 0 | .preparing => 1 | .playing => 2 | .coda => 3 | .selfTest => 4
def PerfResult.num : PerfResult → Nat
  | .completed => 0 | .abortedLink => 1 | .abortedService => 2 | .abortedSupply => 3 | .abortedThermal => 4
  | .storeStall => 5 | .scoreError => 6 | .codaTimeout => 7
def DropReason.num : DropReason → Nat
  | .overflow => 0 | .muted => 1 | .channelFault => 2 | .late => 3 | .thermal => 4
/-- Causes of a self-test's end. DESIGN CHOICE (log entry 66): COMPLETE of R87, then MUTED and STOPPED of R88. -/
def TestCause.num : TestCause → Nat
  | .complete => 0 | .muted => 1 | .stopped => 2
def StrikeOrigin.num : StrikeOrigin → Nat
  | .score => 0 | .test => 1 | .selfTest => 2
def ChannelState.num : ChannelState → Nat
  | .ready => 0 | .pulse => 1 | .recovery => 2 | .faultOff => 3 | .retryReady => 4 | .lockedOut => 5
def PulseEndKind.num : PulseEndKind → Nat
  | .clean => 0 | .overcurrent => 1 | .openCoil => 2 | .halt => 3
def BellFaultKind.num : BellFaultKind → Nat
  | .overcurrent => 0 | .openCoil => 1
def VerifyOutcome.num : VerifyOutcome → Nat
  | .heard => 0 | .miss => 1 | .notVerified => 2 | .noPickup => 3 | .pending => 4
def QualitySource.num : QualitySource → Nat
  | .misses => 0 | .thermalDrops => 1 | .lateDrops => 2 | .allDrops => 3
def QualityMode.num : QualityMode → Nat
  | .manual => 0 | .auto => 1
def AxisKind.num : AxisKind → Nat
  | .rotary => 0 | .linear => 1 | .door => 2
def FollowMode.num : FollowMode → Nat
  | .same => 0 | .mirror => 1
def AxisState.num : AxisState → Nat
  | .unreferenced => 0 | .homing => 1 | .idle => 2 | .moving => 3 | .dwelling => 4 | .waitDoor => 5 | .faultOff => 6
  | .lockedOut => 7
def TargetSource.num : TargetSource → Nat
  | .cue => 0 | .list => 1 | .host => 2 | .home => 3 | .leader => 4
def Direction.num : Direction → Nat
  | .forward => 0 | .reverse => 1
def DutyClass.num : DutyClass → Nat
  | .travel => 0 | .creep => 1
def AxisFaultKind.num : AxisFaultKind → Nat
  | .stall => 0 | .overcurrent => 1 | .timeout => 2 | .limit => 3
def DoorState.num : DoorState → Nat
  | .closed => 0 | .opening => 1 | .open => 2 | .closing => 3 | .fault => 4
def CloseSource.num : CloseSource → Nat
  | .pe => 0 | .park => 1 | .link => 2 | .door => 3
def DoorFaultKind.num : DoorFaultKind → Nat
  | .overcurrent => 0 | .timeout => 1 | .switchLost => 2 | .halt => 3 | .switches => 4
def SupplyState.num : SupplyState → Nat
  | .normal => 0 | .low => 1 | .lockout => 2
def DieState.num : DieState → Nat
  | .normal => 0 | .warn => 1 | .shutdown => 2
def CodeMode.num : CodeMode → Nat
  | .manual => 0 | .auto => 1
/-- Presentation states. DESIGN CHOICE (log entry 75): in the order of the Terms, since no rule lists all seven. The argument of SET_STATE counts RUN, QUIET, STILL from 0 (R185). -/
def Presentation.num : Presentation → Nat
  | .locked => 0 | .run => 1 | .quiet => 2 | .still => 3 | .servicePending => 4 | .serviceReady => 5 | .service => 6
def Status.num : Status → Nat
  | .ok => 0 | .accepted => 1 | .deferred => 2 | .busy => 3 | .busyPerforming => 4 | .refusedState => 5 | .locked => 6
  | .badArgument => 7 | .badLength => 8 | .unknownKind => 9 | .queueFull => 10 | .notPresent => 11

/-- The mute reason set as bits 0 to 4 in the order of 9.1 (R201). -/
def MuteSet.num (m : MuteSet) : Nat :=
  m.operator.toNat + 2 * m.hush.toNat + 4 * m.supply.toNat + 8 * m.service.toNat + 16 * m.thermal.toNat

end Sys2Proof.Machine
end

