-- ==== Sys2Proof/Machine/Operands.lean ====
section
/-! DEFINITION. The operand forms of the link and of the flash (R201): numbers in big-endian bytes, the arguments in a
request's payload, the encoding of reply and notice fields, the check code, and whole frames (11.1). -/

namespace Sys2Proof.Machine

/-! ## Numbers in bytes -/

/-- The byte at an offset. -/
def byteAt (p : List Byte) (i : Nat) : Nat := (p.getD i 0).toNat

/-- The big-endian number of `n` bytes at an offset. -/
def numAt (p : List Byte) (i : Nat) : Nat → Nat
  | 0 => 0
  | n + 1 => numAt p i n * 256 + byteAt p (i + n)

/-- A flag byte is read as set when its value is not 0 (R201). -/
def flagAt (p : List Byte) (i : Nat) : Bool := byteAt p i != 0

/-- A wall reading's nine bytes: year − 2000, month, day, hour, minute, second, microsecond in three (R201). -/
def dateTimeAt (p : List Byte) (i : Nat) : DateTime :=
  ⟨2000 + byteAt p i, byteAt p (i + 1), byteAt p (i + 2), byteAt p (i + 3), byteAt p (i + 4), byteAt p (i + 5),
    numAt p (i + 6) 3⟩

/-- A bell number in range (Conventions, Numbering). -/
def bellOf (n : Nat) : Option Bell := if h : n < 24 then some ⟨n, h⟩ else none

/-- An axis number in range. -/
def axisOf (n : Nat) : Option Axis := if h : n < 8 then some ⟨n, h⟩ else none

/-- `n` as `k` big-endian bytes. -/
def beBytes (n : Nat) : Nat → List Byte
  | 0 => []
  | k + 1 => beBytes (n / 256) k ++ [BitVec.ofNat 8 n]

/-! ## Check code (Conventions, Byte order and check codes) -/

/-- One bit of the CRC-16: shift left, and exclusive-or with 0x1021 when a one leaves at the top. -/
def crcBit (c : BitVec 16) : BitVec 16 := if c.msb then (c <<< 1) ^^^ 0x1021 else c <<< 1

/-- One byte of the CRC-16. -/
def crcByte (c : BitVec 16) (b : Byte) : BitVec 16 :=
  crcBit (crcBit (crcBit (crcBit (crcBit (crcBit (crcBit (crcBit (c ^^^ (b.zeroExtend 16 <<< 8)))))))))

/-- The check code of a string of bytes. -/
def crc16 (bytes : List Byte) : BitVec 16 := bytes.foldl crcByte 0xFFFF

/-- The check code of a flash record or header with its CRC field, offsets 14 and 15, taken as zero (11.4). -/
def recordCrc (bytes : List Byte) : BitVec 16 := crc16 (bytes.take 14 ++ [0, 0] ++ bytes.drop 16)

/-! ## Reply and notice fields -/

/-- An unsigned field of `k` bytes; absent, every byte is 0xFF (R201). -/
def encodeNat (k : Nat) : Option Nat → List Byte
  | some n => beBytes n k
  | none => List.replicate k 0xFF

/-- A signed field of `k` bytes in two's complement; absent, it is the most negative value (R201). -/
def encodeInt (k : Nat) : Option Int → List Byte
  | some i => beBytes (i % (256 ^ k : Nat)).toNat k
  | none => beBytes (256 ^ k / 2) k

/-- A wall reading in nine bytes (R201). -/
def encodeWall : Option Nat → List Byte
  | some r =>
    let t := dateTimeOf r
    beBytes (t.year - 2000) 1 ++ beBytes t.month 1 ++ beBytes t.day 1 ++ beBytes t.hour 1 ++ beBytes t.minute 1 ++
      beBytes t.second 1 ++ beBytes t.micro 3
  | none => List.replicate 9 0xFF

/-- The bytes of a field (R201). -/
def Field.encode : Field → List Byte
  | .u8 v => encodeNat 1 v
  | .u16 v => encodeNat 2 v
  | .u24 v => encodeNat 3 v
  | .u32 v => encodeNat 4 v
  | .u64 v => encodeNat 8 v
  | .s16 v => encodeInt 2 v
  | .s32 v => encodeInt 4 v
  | .s64 v => encodeInt 8 v
  | .wall r => encodeWall r
  | .bytes b => b

/-- A field that is always present. -/
def n8 (n : Nat) : Field := .u8 (some n)
def n16 (n : Nat) : Field := .u16 (some n)
def n24 (n : Nat) : Field := .u24 (some n)
def n32 (n : Nat) : Field := .u32 (some n)
def n64 (n : Nat) : Field := .u64 (some n)
def flag (b : Bool) : Field := .u8 (some b.toNat)

/-- The payload of a reply: its status byte, then its fields (R192). -/
def Reply.payload (r : Reply) : List Byte := BitVec.ofNat 8 r.status.num :: r.fields.flatMap Field.encode

/-- A whole frame (11.1). -/
def frameBytes (kind tag : Byte) (payload : List Byte) : List Byte :=
  let body := BitVec.ofNat 8 payload.length :: kind :: tag :: payload
  0xA5 :: body ++ beBytes (crc16 body).toNat 2

/-- The frame of a reply (R192). -/
def Reply.frame (r : Reply) : List Byte := frameBytes r.kind r.tag r.payload

/-- The bytes the transmitter is sending, none while it is idle (R194, R197). -/
def Transmitter.frame : Transmitter → Option (List Byte)
  | .idle => none
  | .reply r => some r.frame
  | .notice fields => some (frameBytes 0x7F 0 (fields.flatMap Field.encode))

/-! ## The catalogue (11.1) -/

/-- The payload length a request's KIND requires; none where the KIND names no request. STORE_WRITE's is judged against the byte
count it carries (R191). -/
def requiredLength (kind : Byte) (payload : List Byte) : Option Nat :=
  match kind.toNat with
  | 0x01 | 0x02 | 0x04 | 0x0B | 0x0D | 0x0E | 0x11 | 0x12 | 0x15 | 0x1F | 0x20 | 0x21 | 0x23 => some 0
  | 0x06 | 0x0A | 0x0C | 0x13 | 0x18 | 0x1A | 0x1B => some 1
  | 0x08 | 0x10 | 0x14 | 0x16 | 0x17 | 0x19 => some 2
  | 0x1E | 0x22 => some 4
  | 0x07 | 0x0F | 0x1C => some 5
  | 0x03 | 0x05 => some 9
  | 0x09 => some 13
  | 0x1D => some (5 + byteAt payload 4)
  | _ => none

/-- LEN is the payload length its KIND requires (R191, step 2). A STORE_WRITE too short to carry a byte count fails. -/
def lengthFits (kind : Byte) (payload : List Byte) : Bool := requiredLength kind payload == some payload.length

end Sys2Proof.Machine
end

