-- ==== Sys2Proof/Machine/Link.lean ====
section
/-! DEFINITION. The Link Port's queues and transmitter (chapter 10): receiving bytes and requests, the transmitter arbiter and
NOTICE frames. -/

namespace Sys2Proof.Machine

/-- What a request's taking gives: the status and fields of its reply, and the state after it (R191). -/
structure Answer where
  status : Status
  fields : List Field
  state : State

/-- A refusal: the status alone, no state changed (R191, R192). -/
def refuse (st : Status) (s : State) : Answer := ⟨st, [], s⟩

/-! ## Transmitter -/

/-- The payload of a NOTICE frame carrying the kinds given (R197, 11.3). -/
def noticeFields (kinds : KindSet) (s : State) : List Field :=
  [n24 kinds.toNat, n8 s.lp.levels.toNat, .wall (some s.tb.reading), .u16 s.pe.lastMark,
    .u8 (if s.performing then s.pe.perf.map (·.request.id) else none)]

/-- The transmitter arbiter (R194): an idle transmitter starts the oldest reply, or else a NOTICE frame with the whole latch set. -/
def arbitrate (s : State) : State :=
  match s.lp.tx with
  | .reply _ | .notice _ => s
  | .idle =>
    match s.lp.replies with
    | r :: rest => s.modLp fun l => { l with tx := .reply r, replies := rest }
    | [] =>
      if s.lp.latch = 0 then s
      else s.modLp fun l => { l with tx := .notice (noticeFields l.latch s), transit := l.latch, latch := 0 }

/-- A formed reply enters the reply queue (R192). -/
def placeReply (r : Reply) (s : State) : State := s.modLp fun l => { l with replies := l.replies ++ [r] }

/-- KIND of the reply to a request (R192). -/
def replyKind (kind : Byte) : Byte := kind + 0x80

/-! ## Requests -/

/-- A request whose frame is complete (R191): appended to the request queue, or answered QUEUE_FULL; that reply is lost, and counted
as a link error, where 8 replies are queued (R192). -/
def receive (r : Request) (s : State) : State :=
  if s.lp.requests.length < 4 then s.modLp fun l => { l with requests := l.requests ++ [r] }
  else if s.lp.replies.length < 8 then placeReply ⟨replyKind r.kind, r.tag, .queueFull, []⟩ s
  else linkError s

/-- The head of the request queue leaves it (R191). -/
def popRequest (s : State) : State := s.modLp fun l => { l with requests := l.requests.tail }

/-! ## Receive buffer -/

/-- LEN of the frame in the buffer, once that byte is stored. -/
def rxLen (bytes : List Byte) : Option Nat := bytes[1]?.map (·.toNat)

/-- A frame is complete when LEN + 6 bytes have been stored (R189). -/
def rxComplete (bytes : List Byte) : Bool := rxLen bytes == some (bytes.length - 6) && decide (6 ≤ bytes.length)

/-- The CRC of a complete frame matches (10.2): over LEN, KIND, TAG and the payload. -/
def rxCrcMatches (bytes : List Byte) : Bool :=
  (crc16 ((bytes.drop 1).take (bytes.length - 3))).toNat == numAt bytes (bytes.length - 2) 2

/-- The cases that discard a frame, apart from a framing error and the gap, in the order of R189. -/
def rxBad (bytes : List Byte) : Bool :=
  (rxLen bytes).any (240 < ·) ||
    (rxComplete bytes && (byteAt bytes 3 == 0 || decide (0x80 ≤ byteAt bytes 2) || !rxCrcMatches bytes))

/-- The request a complete good frame carries (11.1). -/
def rxRequest (bytes : List Byte) : Request :=
  ⟨bytes.getD 2 0, bytes.getD 3 0, (bytes.drop 4).take (bytes.length - 6)⟩

/-- The buffer returns to hunting. -/
def rxHunt (s : State) : State := s.modLp fun l => { l with rx := .hunting }

end Sys2Proof.Machine
end

