-- ==== Sys2Proof/Machine/Motion.lean ====
section
/-! DEFINITION. The figure axes of the Motion Unit (chapter 7): drives, targets and followers, pose lists, homing, faults, and what a
halt, LOCKED and the service procedure do to an axis. -/

namespace Sys2Proof.Machine

/-! ## Input levels -/

def homeActive (s : State) (a : Axis) : Bool := s.pins.home.getLsbD a.val
def farActive (s : State) (a : Axis) : Bool := s.pins.far.getLsbD a.val
def alimActive (s : State) (a : Axis) : Bool := s.pins.alim.getLsbD a.val

/-! ## Drives (R135, R137) -/

/-- Distance from `pos` to `t` in a direction: round the counts of a ROTARY axis, along the track of a LINEAR one (R137). -/
def axisDistance (p : AxisProfile) (dir : Direction) (pos t : Nat) : Nat :=
  match p.kind, dir with
  | .rotary, .forward => (t + p.size - pos) % p.size
  | .rotary, .reverse => (pos + p.size - t) % p.size
  | .linear, .forward => t - pos
  | .linear, .reverse => pos - t
  | .door, _ => 0

/-- The direction of a drive from `pos` to `t` (R137). That of a LINEAR axis set up afresh toward the very position it moves at is stated
nowhere, and free (log entry 23). -/
def axisDirection (p : AxisProfile) (pos t : Nat) : Direction :=
  match p.kind with
  | .linear =>
    if pos < t then .forward
    else if t < pos then .reverse
    else if Config.linearTie pos then .forward else .reverse
  | .door => .forward
  | .rotary =>
    match p.policy with
    | .forwardOnly => .forward
    | .shortest => if axisDistance p .forward pos t ≤ axisDistance p .reverse pos t then .forward else .reverse

/-- TRAVEL while the remaining distance exceeds the approach window, CREEP from there on (R137). -/
def axisDuty (p : AxisProfile) (dir : Direction) (pos t : Nat) : DutyClass :=
  if p.approach < axisDistance p dir pos t then .travel else .creep

/-- The instant at which ALIM activity beginning now becomes an over-current (R149). -/
def tripFrom (p : AxisProfile) (now : Nat) : Nat := now + blankingTime p.blankCode + 1

/-- A drive begins with both its timers (R148), and with the current watch timed from now if ALIM is active (R149). -/
def AxisRecord.beginDrive (p : AxisProfile) (dir : Direction) (duty : DutyClass) (now : Nat) (alim : Bool)
    (r : AxisRecord) : AxisRecord :=
  { r with
    drive := some ⟨dir, duty, now, now, none⟩
    tripAt := if alim then some (tripFrom p now) else none }

/-- The drive stops: both gates inactive, no watch runs (R135). -/
def AxisRecord.stop (r : AxisRecord) : AxisRecord := { r with drive := none, tripAt := none }

/-- A drive set up afresh for a new target (R137, R138): the travel timeout restarts, the stall timer does not, and a new direction
makes a reversal with its dead time (R135). -/
def Drive.retarget (dir : Direction) (duty : DutyClass) (now : Nat) (d : Drive) : Drive :=
  { d with
    dir := dir
    duty := duty
    start := now
    deadUntil := if d.dir = dir then d.deadUntil else some (now + 1000) }

/-! ## Dropping (R138, R150) -/

/-- Step 1 of R150: the target, its held flag and the list runner are dropped, and a dropped target is counted. -/
def AxisRecord.dropTarget (r : AxisRecord) : AxisRecord :=
  { r with
    target := none
    held := false
    runner := none
    dropped := if r.target.isSome then satInc r.dropped else r.dropped }

/-- The reference is lost; the position is 0 while the axis is unreferenced (7.2). -/
def AxisRecord.loseReference (r : AxisRecord) : AxisRecord := { r with referenced := false, position := 0 }

/-! ## Faults (R148 to R150) -/

/-- STALL and TIMEOUT cost the axis its reference; OVERCURRENT and LIMIT do not (R148, R149). -/
def AxisFaultKind.losesReference : AxisFaultKind → Bool
  | .stall | .timeout => true
  | .overcurrent | .limit => false

/-- What a fault does to an axis's record (R148 to R150). -/
def AxisRecord.fault (p : AxisProfile) (kind : AxisFaultKind) (now : Nat) (r : AxisRecord) : AxisRecord :=
  let n := min (r.faultCount + 1) 3
  let off := p.autoretry && decide (n < 3)
  let r1 := r.stop.dropTarget
  let r2 := if kind.losesReference then r1.loseReference else r1
  { r2 with
    state := if off then .faultOff else .lockedOut
    homeRequest := false
    waitHoming := false
    dwellEnd := none
    faultCount := n
    lastFault := some ⟨kind, now, if kind = .overcurrent then some (tripLevel p.limitCode) else none⟩
    offEnd := if off then some (now + retryOffTime p.retryCode) else none }

/-- A fault of a present figure axis (R150); AXIS_FAULT is raised. -/
def axisFault (kind : AxisFaultKind) (a : Axis) (s : State) : State :=
  match s.axisProfile a with
  | none => s
  | some p => raise .axisFault (s.modAxis a (·.fault p kind s.now))

/-- The limit watch (R149): a LINEAR axis driven forward with its far switch active faults. -/
def judgeLimit (a : Axis) (s : State) : State :=
  match s.axisProfile a with
  | none => s
  | some p =>
    if p.kind = .linear ∧ (s.axis a).drive.any (·.dir = .forward) ∧ farActive s a then axisFault .limit a s else s

/-! ## Targets (R138) -/

/-- What came of a target that was given. -/
inductive Given where
  | dropped | held | pursued | reached
  deriving DecidableEq, Repr

/-- A target from any source other than LIST and LEADER ends a running list (R138, R143). -/
def TargetSource.endsList : TargetSource → Bool
  | .list | .leader => false
  | .cue | .host | .home => true

/-- A given target is dropped (R138); a dropped list step ends its runner (R142). -/
def AxisRecord.refuseTarget (t : Target) (r : AxisRecord) : AxisRecord :=
  { r with dropped := satInc r.dropped, runner := if t.source = .list then none else r.runner }

/-- A given target is taken in place of any other (R138, R143). -/
def AxisRecord.takeTarget (t : Target) (r : AxisRecord) : AxisRecord :=
  { r with
    target := some t
    held := false
    dwellEnd := none
    runner := if t.source.endsList then none else r.runner }

/-- A target reached: the axis rests IDLE without it (R141); a list step goes on from there (R142). -/
def AxisRecord.restAtTarget (r : AxisRecord) : AxisRecord :=
  { r.stop with state := .idle, target := none, held := false, waitHoming := false }

/-- The drive toward the target begins (R137, R164). -/
def driveToTarget (a : Axis) (s : State) : State :=
  match s.axisProfile a, (s.axis a).target with
  | some p, some t =>
    let pos := (s.axis a).position
    let dir := axisDirection p pos t.pos
    judgeLimit a (s.modAxis a fun r =>
      { r.beginDrive p dir (axisDuty p dir pos t.pos) s.now (alimActive s a) with state := .moving, waitHoming := false })
  | _, _ => s

/-- A drive toward the target is to begin (R138, R164): on a guarded axis it waits for the door, or is dropped at a door in
DOOR_FAULT. -/
def beginMove (a : Axis) (s : State) : State × Given :=
  match s.guardDoor a with
  | none => (driveToTarget a s, .pursued)
  | some d =>
    match (s.door d).state with
    | .open => (driveToTarget a s, .pursued)
    | .fault => (s.modAxis a fun r => { r.dropTarget with state := .idle }, .dropped)
    | .closed | .opening | .closing =>
      (s.modAxis a fun r => { r with state := .waitDoor, waitHoming := false }, .pursued)

/-- A new target while MOVING (R138): the drive is set up afresh. DESIGN CHOICE (log entry 64): the limit watch of a reversal to forward
begins with the reversal, its dead time included. -/
def retarget (t : Target) (a : Axis) (s : State) : State :=
  match s.axisProfile a with
  | none => s
  | some p =>
    let pos := (s.axis a).position
    let dir := axisDirection p pos t.pos
    judgeLimit a (s.modAxis a fun r =>
      { r.takeTarget t with drive := r.drive.map (·.retarget dir (axisDuty p dir pos t.pos) s.now) })

/-- A target is given to an axis, which takes it by its state (table of R138). Its followers are `passOn`'s matter. DESIGN CHOICE (log
entry 23): an axis still MOVING at position 0 that is given HOME, by the coda too, drives on by the row MOVING; R143 says that an axis
referenced at position 0 reaches the coda's target at once and stays, which the model reads of an axis that is not MOVING. -/
def giveOne (t : Target) (a : Axis) (s : State) : State × Given :=
  let r := s.axis a
  let drop := (s.modAxis a (·.refuseTarget t), Given.dropped)
  let hold := (s.modAxis a fun r => { r.takeTarget t with held := true }, Given.held)
  let reach := (s.modAxis a fun r => (r.takeTarget t).restAtTarget, Given.reached)
  if !s.isFigure a || s.halted || s.partLocked then drop
  else
    match r.state with
    | .faultOff | .lockedOut => drop
    | .unreferenced => if r.homeRequest then hold else drop
    | .homing => hold
    | .waitDoor =>
      if r.waitHoming then hold
      else if t.pos = r.position then reach
      else (s.modAxis a (·.takeTarget t), .pursued)
    | .moving => (retarget t a s, .pursued)
    | .idle | .dwelling =>
      if t.pos = r.position then reach
      else beginMove a (s.modAxis a fun r => { r.takeTarget t with state := .idle })

/-! ## Followers (R146) -/

/-- The target a follower is given: a HOME target as position 0 with its source, any other as a LEADER target, the same or
mirrored. -/
def followerTarget (p : AxisProfile) (t : Target) : Target :=
  if t.source = .home then ⟨0, .home, none⟩
  else
    match p.follow with
    | .same => ⟨t.pos, .leader, none⟩
    | .mirror =>
      match p.kind with
      | .rotary => ⟨(p.size - t.pos) % p.size, .leader, none⟩
      | .linear | .door => ⟨p.size - t.pos, .leader, none⟩

/-- A target its leader took is given to each follower. -/
def passOn (t : Target) (a : Axis) (s : State) : State :=
  forEach (fun f s =>
    match s.axisProfile f with
    | none => s
    | some p => if p.leader = some a then (giveOne (followerTarget p t) f s).1 else s) allAxes s

/-! ## Pose lists (R142, R143) -/

/-- A last-step arrival is reported to the engine: a WAIT on the axis is met (R69, R142). -/
def reportLastStep (a : Axis) (s : State) : State :=
  s.modPe fun e =>
    { e with hold :=
        match e.hold with
        | .wait x l met => .wait x l (met || x == a)
        | .none => .none
        | .stall t => .stall t }

/-- The runner stands at its list's last step. -/
def Runner.atLast (r : Runner) : Bool := decide (r.steps.length ≤ r.step + 1)

/-- The dwell of the runner's present step, in ms. -/
def Runner.dwell (r : Runner) : Nat := ((r.steps[r.step]?).map (·.2)).getD 0

/-- The pose target of the runner's present step (R142). -/
def Runner.target (p : AxisProfile) (r : Runner) : Target :=
  let pose := ((r.steps[r.step]?).map (·.1)).getD 0
  ⟨p.poses.getD pose 0, .list, some pose⟩

/-- A step's target is reached: the dwell begins; a dwell of 0 ends at once, and `next` goes on (R142). -/
def stepReached (next : State → State) (a : Axis) (s : State) : State :=
  match (s.axis a).runner with
  | none => s
  | some r =>
    let s1 := s.modAxis a fun x => { x with state := .dwelling, dwellEnd := some (s.now + r.dwell * 1000) }
    let s2 := if r.atLast then reportLastStep a s1 else s1
    if r.dwell = 0 then next s2 else s2

/-- A target is given to an axis and, if taken, to its followers; a list step reached at once goes on with `next`. -/
def giveWith (next : State → State) (t : Target) (a : Axis) (s : State) : State :=
  let g := giveOne t a s
  let s1 := if g.2 = .dropped then g.1 else passOn t a g.1
  if g.2 = .reached ∧ t.source = .list then stepReached next a s1 else s1

/-- The runner's present step is given as a target. -/
def giveStep (next : State → State) (a : Axis) (s : State) : State :=
  match s.axisProfile a, (s.axis a).runner with
  | some p, some r => giveWith next (r.target p) a s
  | _, _ => s

/-- The HOME target (R138). -/
def homeTarget : Target := ⟨0, .home, none⟩

/-- The runner ends and the axis rests IDLE with no target (R142). -/
def AxisRecord.endRunner (r : AxisRecord) : AxisRecord := { r with state := .idle, dwellEnd := none, runner := none }

/-- A dwell ends: the cases of R142. `fuel` bounds the steps one microsecond can run; a list of at most 16 steps needs at most two
rounds of it before case 3 stops it. -/
def dwellNext : Nat → Axis → State → State
  | 0, _, s => s
  | fuel + 1, a, s =>
    match (s.axis a).runner with
    | none => s
    | some r =>
      if r.stopAfter then giveWith id homeTarget a (s.modAxis a (·.endRunner))
      else if !r.atLast then
        giveStep (dwellNext fuel a) a (s.modAxis a fun x => { x with runner := some { r with step := r.step + 1 } })
      else if r.loop && r.roundStart != s.now then
        giveStep (dwellNext fuel a) a
          (s.modAxis a fun x => { x with runner := some { r with step := 0, roundStart := s.now } })
      else s.modAxis a (·.endRunner)

/-- Steps one microsecond may run. -/
def listFuel : Nat := 64

/-- A target is given to an axis (R138, R146). -/
def give (t : Target) (a : Axis) (s : State) : State := giveWith (dwellNext listFuel a) t a s

/-- A CUE with a pose list (R142): the new list replaces the runner and starts at step 0. DESIGN CHOICE (log entry 67): where a halt reason
has its first step dropped, the list before it has ended with it, and a step of that list which the axis holds until homing ends stays
held. -/
def startList (id : Nat) (l : PoseList) (a : Axis) (s : State) : State :=
  giveStep (dwellNext listFuel a) a
    (s.modAxis a fun x => { x with runner := some ⟨id, l.steps, 0, l.loop, false, s.now⟩ })

/-- The pose target of a pose (R134). -/
def poseTarget (s : State) (a : Axis) (source : TargetSource) (pose : Nat) : Target :=
  ⟨((s.axisProfile a).map (·.poses.getD pose 0)).getD 0, source, some pose⟩

/-- The coda's request (R76, R143): a running list stops after its step, any other axis is given HOME. -/
def sendHomeAfterStep (a : Axis) (s : State) : State :=
  match (s.axis a).runner with
  | some r => s.modAxis a fun x => { x with runner := some { r with stopAfter := true } }
  | none => give homeTarget a s

/-! ## Homing (R139, R140) -/

/-- The axis becomes referenced at its home switch (R139, R140). -/
def AxisRecord.atHome (r : AxisRecord) : AxisRecord :=
  { r.stop with state := .idle, position := 0, referenced := true, homeRequest := false, waitHoming := false }

/-- A held target is taken again, as given to an IDLE axis (R139). -/
def takeHeld (a : Axis) (s : State) : State :=
  match (s.axis a).target with
  | none => s
  | some t =>
    if (s.axis a).held then give t a (s.modAxis a fun r => { r with target := none, held := false }) else s

/-- Homing ends with the axis referenced. -/
def endHoming (a : Axis) (s : State) : State := takeHeld a (s.modAxis a (·.atHome))

/-- The homing drive begins: creep duty, forward on a ROTARY axis and in reverse on a LINEAR one (R140). -/
def beginHomingDrive (a : Axis) (s : State) : State :=
  match s.axisProfile a with
  | none => s
  | some p =>
    let dir := if p.kind = .rotary then Direction.forward else .reverse
    s.modAxis a fun r =>
      { r.beginDrive p dir .creep s.now (alimActive s a) with state := .homing, waitHoming := false }

/-- Homing may begin (R139). -/
def mayHome (s : State) (a : Axis) : Bool :=
  s.isFigure a && (s.axis a).state == .unreferenced && (s.axis a).homeRequest && !s.partLocked && !s.halted

/-- Homing begins (R139): referenced at once, or waiting for the guard door, or driven. -/
def beginHoming (a : Axis) (s : State) : State :=
  if homeActive s a then endHoming a s
  else
    match s.guardDoor a with
    | none => beginHomingDrive a s
    | some d =>
      if (s.door d).state = .open then beginHomingDrive a s
      else s.modAxis a fun r => { r with state := .waitDoor, waitHoming := true }

/-- A home request is given (R139): the reference is lost, and the target and the runner are dropped unless the target is held. DESIGN
CHOICE (log entry 77): a drive to a target stops, and the homing drive after it is a new drive with no dead time. -/
def AxisRecord.giveHome (r : AxisRecord) : AxisRecord :=
  let r1 := if r.held then r else { r with target := none, runner := none }
  { r1.stop.loseReference with
    state := .unreferenced, homeRequest := true, dwellEnd := none, offEnd := none, waitHoming := false }

/-- A home request (R139) to an axis that may be homing already: the homing drive goes on as it is (R140). -/
def AxisRecord.requestHome (r : AxisRecord) : AxisRecord := if r.state = .homing then r else r.giveHome

/-- A present figure axis is given a home request. -/
def requestHome (a : Axis) (s : State) : State := if s.isFigure a then s.modAxis a (·.requestHome) else s

/-- A guarded axis in WAIT_DOOR starts as its door enters OPEN (R164). -/
def startWaiter (a : Axis) (s : State) : State :=
  if (s.axis a).state = .waitDoor then
    if (s.axis a).waitHoming then (if homeActive s a then endHoming a s else beginHomingDrive a s)
    else driveToTarget a s
  else s

/-! ## Counts (R136, R137) -/

/-- The position after a counted count (R136). DESIGN CHOICE (log entry 23): a LINEAR axis driven in reverse at position 0, which the free
direction alone can bring about, stays at 0, and so meets a target of 0 at that count. -/
def nextPosition (p : AxisProfile) (dir : Direction) (pos : Nat) : Nat :=
  match p.kind, dir with
  | .rotary, .forward => (pos + 1) % p.size
  | .rotary, .reverse => (pos + p.size - 1) % p.size
  | .linear, .forward | .door, .forward => pos + 1
  | .linear, .reverse | .door, .reverse => pos - 1

/-- A driven arrival (R137): the drive stops and the fault count becomes 0; the axis goes on by its target's source. -/
def arrive (t : Target) (a : Axis) (s : State) : State :=
  let s := s.modAxis a fun r => { r.restAtTarget with faultCount := 0 }
  if t.source = .list then stepReached (dwellNext listFuel a) a s else s

/-- A counted count (R136): a gate of the axis is active. -/
def countAxis (a : Axis) (s : State) : State :=
  match s.axisProfile a, (s.axis a).drive with
  | some p, some d =>
    if d.deadUntil.isSome then s
    else
      let s := s.modAxis a fun r => { r with drive := some { d with stallFrom := s.now } }
      match (s.axis a).state, (s.axis a).target with
      | .moving, some t =>
        let pos := nextPosition p d.dir (s.axis a).position
        let s := s.modAxis a fun r => { r with position := pos }
        if pos = t.pos then arrive t a s
        else s.modAxis a fun r => { r with drive := r.drive.map fun x => { x with duty := axisDuty p d.dir pos t.pos } }
      | _, _ => s
  | _, _ => s

/-! ## Halt, LOCKED and service (R152, R153, R169, R170) -/

/-- A halt's effect on an axis by its state (R152). -/
def AxisRecord.halt (r : AxisRecord) : AxisRecord :=
  match r.state with
  | .moving => { r.stop.dropTarget with state := .idle }
  | .dwelling => { r with state := .idle, dwellEnd := none, runner := none }
  | .waitDoor =>
    { r.dropTarget with state := if r.waitHoming then .unreferenced else .idle, waitHoming := false }
  | .homing => { r.stop with state := .unreferenced }
  | .unreferenced | .idle | .faultOff | .lockedOut => r

/-- UNREFERENCED with nothing to do: no home request, target, runner or off-time (R153, R169). -/
def AxisRecord.unreference (r : AxisRecord) : AxisRecord :=
  { r.stop.loseReference with
    state := .unreferenced
    homeRequest := false
    target := none
    held := false
    runner := none
    dwellEnd := none
    waitHoming := false
    offEnd := none }

/-- The part becomes LOCKED (R52, R153). -/
def AxisRecord.lock (r : AxisRecord) : AxisRecord := { r.unreference with faultCount := 0 }

/-- An early hatch (R169): a LOCKED_OUT axis keeps its state and loses its reference. -/
def AxisRecord.earlyHatch (r : AxisRecord) : AxisRecord :=
  if r.state = .lockedOut then r.loseReference else r.unreference

/-- Service is left (R170): every axis but a LOCKED_OUT one is UNREFERENCED and given a home request (R139). -/
def AxisRecord.leaveService (r : AxisRecord) : AxisRecord := if r.state = .lockedOut then r else r.giveHome

/-- CLEAR_FAULT on a ROTARY or LINEAR axis (R151). -/
def AxisRecord.clearFault (r : AxisRecord) : AxisRecord :=
  match r.state with
  | .faultOff | .lockedOut => { r with faultCount := 0, offEnd := none }.requestHome
  | .unreferenced | .homing | .idle | .moving | .dwelling | .waitDoor => { r with faultCount := 0 }

/-- The off-time end is reached (R150): a referenced axis rests IDLE, an unreferenced one is given a home request. -/
def AxisRecord.endOffTime (r : AxisRecord) : AxisRecord :=
  if r.referenced then { r with state := .idle, offEnd := none } else r.requestHome

/-- Each present figure axis in turn. -/
def forFigures (f : Axis → State → State) (s : State) : State :=
  forEach (fun a s => if s.isFigure a then f a s else s) allAxes s

end Sys2Proof.Machine
end

