-- ==== Sys2Proof/Machine/Doors.lean ====
section
/-! DEFINITION. The doors of the Motion Unit (chapter 8): demands, judgment, travel, faults, release, the guard-door interlock, and
parks. -/

namespace Sys2Proof.Machine

/-! ## The record (R157, R158) -/

/-- The open demand set holds any member. -/
def DoorRecord.wanted (r : DoorRecord) : Bool := r.members != 0 || r.pe || r.link

/-- The OPEN and the CLOSED switch of a door (8.1). -/
def openSwitch (s : State) (d : Axis) : Bool := farActive s d
def closedSwitch (s : State) (d : Axis) : Bool := homeActive s d

/-- A door is read from its switches (R157). -/
def DoorRecord.read (isOpen isClosed : Bool) (now : Nat) (r : DoorRecord) : DoorRecord :=
  let sure := isOpen != isClosed
  { r with
    state := if sure then (if isOpen then .open else .closed) else .fault
    pe := false
    link := false
    close := none
    faultCount := 0
    lastFault := if sure then r.lastFault else some ⟨.switches, now, none⟩
    offEnd := none
    release := !sure && !isOpen
    drive := none
    tripAt := none
    openLost := none }

def readDoor (d : Axis) (s : State) : State :=
  s.modDoor d (·.read (openSwitch s d) (closedSwitch s d) s.now)

/-! ## Interlock (R158, R159, R164, R165) -/

/-- The axis members of a door's open demand set: its guarded axes in WAIT_DOOR or off their home switches (R158). -/
def axisMembers (s : State) (d : Axis) : AxisSet :=
  setOf (fun a => s.isGuarded d a && ((s.axis a).state == .waitDoor || !homeActive s a)) allAxes

/-- The axis members follow their conditions; when the last one leaves an otherwise empty set with no close demand standing, the door
itself demands to close (R158). An absent door has none. -/
def syncMembers (d : Axis) (s : State) : State :=
  if s.isDoor d then
    let m := axisMembers s d
    s.modDoor d fun r =>
      { r with
        members := m
        close := if r.members != 0 && m == 0 && !r.pe && !r.link && r.close.isNone then some .door else r.close }
  else s.modDoor d fun r => { r with members := 0 }

/-- A door is clear for closing (R159). -/
def clearForClosing (s : State) (d : Axis) : Bool :=
  allAxes.all fun a => !s.isGuarded d a || ((s.axis a).state == .idle && homeActive s a)

/-- Drive is allowed for a door (R159). -/
def doorMayDrive (s : State) (d : Axis) : Bool :=
  s.isDoor d && !s.partLocked && !s.halted && (s.door d).state != .fault

/-- Each guarded axis of a door in turn. -/
def forGuarded (d : Axis) (f : Axis → State → State) (s : State) : State :=
  forEach (fun a s => if s.isGuarded d a then f a s else s) allAxes s

/-- What a door's fault does to a guarded axis (R165). -/
def AxisRecord.guardLost (r : AxisRecord) : AxisRecord :=
  match r.state with
  | .moving => { r.stop.dropTarget with state := .idle }
  | .homing => { r.stop with state := .waitDoor, waitHoming := true }
  | .waitDoor => if r.waitHoming then r else { r.dropTarget with state := .idle }
  | .unreferenced | .idle | .dwelling | .faultOff | .lockedOut => r

/-! ## Travel (R160) -/

/-- The drive of a door's travel: a reversal passes through the dead time and records a new drive start; the current watch of a drive
under way runs on. -/
def DoorRecord.travel (state : DoorState) (dir : Direction) (now : Nat) (trip : Option Nat) (r : DoorRecord) : DoorRecord :=
  { r with
    state := state
    drive := some ⟨dir, .travel, now, now, if r.drive.isSome then some (now + 1000) else none⟩
    tripAt := if r.drive.isSome then r.tripAt else trip }

/-- The instant at which a door's ALIM activity under way now becomes an over-current (R161). -/
def doorTrip (s : State) (d : Axis) : Option Nat :=
  if alimActive s d then (s.axisProfile d).map (tripFrom · s.now) else none

/-- The door stands at a switch with its drive stopped. -/
def DoorRecord.stand (state : DoorState) (r : DoorRecord) : DoorRecord :=
  { r with state := state, drive := none, tripAt := none, openLost := none }

/-- A door enters OPEN, and the axes that wait on it start (R160, R164). -/
def enterOpen (d : Axis) (s : State) : State :=
  forGuarded d startWaiter (s.modDoor d (·.stand .open))

/-- A door enters CLOSED, and its close demand becomes none (R160). -/
def enterClosed (d : Axis) (s : State) : State :=
  s.modDoor d fun r => { r.stand .closed with close := none }

def enterOpening (d : Axis) (s : State) : State :=
  if openSwitch s d then enterOpen d s else s.modDoor d (·.travel .opening .forward s.now (doorTrip s d))

def enterClosing (d : Axis) (s : State) : State :=
  if closedSwitch s d then enterClosed d s
  else s.modDoor d fun r => { r.travel .closing .reverse s.now (doorTrip s d) with openLost := none }

/-- The action a judgment finds (table of R159). -/
inductive DoorAction where
  | stay | opening | closing | clearDemand
  deriving DecidableEq, Repr

def doorAction (s : State) (d : Axis) : DoorAction :=
  let r := s.door d
  if !doorMayDrive s d then .stay
  else if r.wanted then
    match r.state with
    | .closed | .closing => .opening
    | .opening | .open | .fault => .stay
  else if r.close.isSome then
    match r.state with
    | .closed => .clearDemand
    | .opening | .open => if clearForClosing s d then .closing else .stay
    | .closing => if clearForClosing s d then .stay else .opening
    | .fault => .stay
  else .stay

/-- A door is judged (R159). -/
def judgeDoor (d : Axis) (s : State) : State :=
  match doorAction s d with
  | .stay => s
  | .opening => enterOpening d s
  | .closing => enterClosing d s
  | .clearDemand => s.modDoor d fun r => { r with close := none }

/-! ## Faults and release (R161 to R163) -/

/-- A door enters DOOR_FAULT (R161, R163): the drive stops, its guarded axes are treated by R165 and DOOR_FAULT is raised. -/
def doorFault (kind : DoorFaultKind) (trip : Option Nat) (d : Axis) (s : State) : State :=
  let s1 := s.modDoor d fun r =>
    { r with state := .fault, lastFault := some ⟨kind, s.now, trip⟩, drive := none, tripAt := none, openLost := none }
  raise .doorFault (forGuarded d (fun a s => s.modAxis a (·.guardLost)) s1)

/-- A TIMEOUT, SWITCH_LOST or OVERCURRENT raises the count (R161). -/
def countDoorFault (d : Axis) (s : State) : State :=
  s.modDoor d fun r => { r with faultCount := min (r.faultCount + 1) 3 }

/-- An OVERCURRENT (R161): with autoretry and a count of 1 or 2 the off-time is set. -/
def doorOverCurrent (d : Axis) (s : State) : State :=
  match s.axisProfile d with
  | none => s
  | some p =>
    let s1 := countDoorFault d (doorFault .overcurrent (some (tripLevel p.limitCode)) d s)
    if p.autoretry && decide ((s1.door d).faultCount < 3) then
      s1.modDoor d fun r => { r with offEnd := some (s.now + retryOffTime p.retryCode) }
    else s1

/-- A halt stops a moving door in DOOR_FAULT, to be released when the halt ends (R163). -/
def haltDoor (d : Axis) (s : State) : State :=
  match (s.door d).state with
  | .opening | .closing => (doorFault .halt none d s).modDoor d fun r => { r with release := true }
  | .closed | .open | .fault => s

/-- A door may be released (R162). -/
def mayRelease (s : State) (d : Axis) : Bool :=
  s.isDoor d && (s.door d).state == .fault && (s.door d).release && !s.partLocked && !s.halted

/-- A door is released, and travels to a switch (R162). -/
def releaseDoor (d : Axis) (s : State) : State :=
  let s1 := s.modDoor d fun r =>
    { r with release := false, close := if !r.wanted && r.close.isNone then some .door else r.close }
  if (s1.door d).wanted || !clearForClosing s1 d then enterOpening d s1 else enterClosing d s1

/-- CLEAR_FAULT on a door (R162). -/
def DoorRecord.clearFault (r : DoorRecord) : DoorRecord :=
  if r.state = .fault then { r with faultCount := 0, offEnd := none, release := true } else { r with faultCount := 0 }

/-! ## Demands (table of R158) -/

/-- PE open demand. -/
def DoorRecord.peOpen (r : DoorRecord) : DoorRecord := { r with pe := true, close := none }
/-- MOVE_AXIS with pose 1. -/
def DoorRecord.linkOpen (r : DoorRecord) : DoorRecord := { r with link := true, close := none }
/-- MOVE_AXIS with pose 0. -/
def DoorRecord.linkClose (r : DoorRecord) : DoorRecord := { r with link := false, close := some .link }
/-- PE close demand at the coda. -/
def DoorRecord.peClose (r : DoorRecord) : DoorRecord := { r with pe := false, link := false, close := some .pe }
/-- A park's close demand (R166), also given at a walk's end (R163) and at the end of service (R170). -/
def DoorRecord.park (r : DoorRecord) : DoorRecord := { r with pe := false, link := false, close := some .park }
/-- Straight-to-IDLE withdrawal (R80). -/
def DoorRecord.withdrawPe (r : DoorRecord) : DoorRecord :=
  { r with pe := false, close := if r.close = some .pe then none else r.close }

/-- A demand is placed on each present door of a set, and the doors are judged. -/
def demandDoors (set : AxisSet) (f : DoorRecord → DoorRecord) (s : State) : State :=
  forEach (fun d s => if s.isDoor d && set.getLsbD d.val then judgeDoor d ((syncMembers d s).modDoor d f) else s) allAxes s

/-! ## What follows at once

Membership, homing, releases and judgments follow their conditions from instant to instant (R139, R158, R159, R162). -/

/-- Something of the Motion Unit is to follow at this instant. -/
def motionBusy (s : State) : Bool :=
  allAxes.any fun a =>
    (s.door a).members != (if s.isDoor a then axisMembers s a else 0) || mayHome s a || mayRelease s a || doorAction s a != .stay

/-- Every member set, then every homing, every release and every judgment that is due. -/
def motionPass (s : State) : State :=
  let s := forEach syncMembers allAxes s
  let s := forEach (fun a s => if mayHome s a then beginHoming a s else s) allAxes s
  let s := forEach (fun d s => if mayRelease s d then releaseDoor d (syncMembers d s) else s) allAxes s
  forEach (fun d s => judgeDoor d (syncMembers d s)) allAxes s

/-- Passes until nothing more follows; `fuel` bounds them. -/
def settleMotionFor : Nat → State → State
  | 0, s => s
  | fuel + 1, s => if motionBusy s then settleMotionFor fuel (motionPass s) else s

def settleMotion (s : State) : State := settleMotionFor 16 s

/-! ## Parks (R166) -/

/-- A park is handed to the Motion Unit: every present figure axis is given HOME, every present door a PARK close demand. A follower whose
leader takes HOME is given it twice, the second time to no effect where it took the first (R166). DESIGN CHOICE (log entry 80): where it
drops HOME (R138, R165), each of the two counts as a dropped target; R166 speaks of the target it takes alone. -/
def park (s : State) : State := demandDoors (BitVec.allOnes 8) DoorRecord.park (forFigures (give homeTarget) s)

end Sys2Proof.Machine
end

