-- ==== Sys2Proof/Machine/Schedule.lean ====
section
/-! DEFINITION. The Schedule Unit (chapter 2): seasons, programmes, triggers, the show queue, and how a step of the wall clock is
judged (R28 to R30). -/

namespace Sys2Proof.Machine

/-! ## Seasons (R21, R22) -/

/-- A (month, day) pair stands at or before another: months are compared first, then days (R21). -/
def notAfter (a b : Nat × Nat) : Bool := decide (a.1 < b.1 ∨ a.1 = b.1 ∧ a.2 ≤ b.2)

/-- A (month, day) pair lies within an entry's range, which wraps across the new year where its start stands after its end (R21). -/
def SeasonEntry.covers (e : SeasonEntry) (p : Nat × Nat) : Bool :=
  let a := (e.startMonth, e.startDay)
  let z := (e.endMonth, e.endDay)
  if notAfter a z then notAfter a p && notAfter p z else notAfter a p || notAfter p z

/-- An entry matches the date of a day number (R21). -/
def SeasonEntry.matchesDay (e : SeasonEntry) (d : Nat) : Bool :=
  e.enabled && e.weekdays.getLsbD (weekdayOf d) && e.covers (monthDayOf d)

/-- Among matching entries, the one of highest priority, and among equals the lowest index (R21). -/
def bestSeason (d : Nat) : List SeasonEntry → Nat → Option (Nat × SeasonEntry) → Option (Nat × SeasonEntry)
  | [], _, best => best
  | e :: rest, i, best =>
    let better := e.matchesDay d && (match best with | none => true | some (_, b) => decide (b.priority < e.priority))
    bestSeason d rest (i + 1) (if better then some (i, e) else best)

/-- The season and programme of a date (R21). -/
def seasonOfDay (s : State) (d : Nat) : Option Nat × Nat :=
  match bestSeason d s.su.seasons.toList 0 none with
  | none => (none, 0)
  | some (i, e) => (some i, e.programme)

/-- The day number of the wall clock's date. -/
def today (s : State) : Nat := s.tb.reading / dayMicros

/-- The active season and programme are evaluated (R22). -/
def evaluateSeason (s : State) : State :=
  let sp := seasonOfDay s (today s)
  s.modSu fun u => { u with activeSeason := sp.1, activeProgramme := sp.2 }

/-- The checks of SET_SEASON on an entry's fields (R23). -/
def SeasonEntry.ok (e : SeasonEntry) : Bool :=
  decide (1 ≤ e.startMonth ∧ e.startMonth ≤ 12 ∧ 1 ≤ e.endMonth ∧ e.endMonth ≤ 12 ∧
    1 ≤ e.startDay ∧ e.startDay ≤ lastDay 2000 e.startMonth ∧ 1 ≤ e.endDay ∧ e.endDay ≤ lastDay 2000 e.endMonth ∧
    e.priority ≤ 7 ∧ e.programme ≤ 7)

/-- A season entry in the layout of 11.4, which SET_SEASON shares (R201). -/
def seasonAt (p : List Byte) (i : Nat) : SeasonEntry :=
  ⟨flagAt p i, byteAt p (i + 1), byteAt p (i + 2), byteAt p (i + 3), byteAt p (i + 4),
    BitVec.ofNat 7 (byteAt p (i + 5)), byteAt p (i + 6), byteAt p (i + 7)⟩

/-- A show id or NONE, 0xFF (R201); none for a value that is neither NONE nor 0 to 63 (R24). -/
def showOrNone (n : Nat) : Option (Option Nat) :=
  if n = 255 then some none else if n < 64 then some (some n) else none

/-- The hour entry of three bytes (11.4), or none where SET_HOUR would refuse it (R24). -/
def hourEntryAt (p : List Byte) (i : Nat) : Option HourEntry :=
  match showOrNone (byteAt p i), showOrNone (byteAt p (i + 1)), Mode.ofNum (byteAt p (i + 2)) with
  | some h, some q, some m => some ⟨h, q, m⟩
  | _, _, _ => none

/-! ## Triggers (R25, R26) -/

/-- The due instant of a trigger: triggers lie 900 s apart (2.3). -/
def dueOf (t : Nat) : Nat := t * 900000000

/-- The hour of a trigger, and its quarter, 0 for an hour trigger (2.3). -/
def triggerHour (t : Nat) : Nat := t % 96 / 4
def triggerQuarter (t : Nat) : Nat := t % 4
def triggerDay (t : Nat) : Nat := t / 96

/-- The hour entry a trigger takes: of the programme of its own date (R25). -/
def triggerEntry (s : State) (t : Nat) : HourEntry :=
  let pr := (seasonOfDay s (triggerDay t)).2
  ((s.su.programmes[pr]?).bind (·[triggerHour t]?)).getD HourEntry.empty

/-- The show of a trigger (R25). -/
def triggerShow (s : State) (t : Nat) : Option Nat :=
  if triggerQuarter t = 0 then (triggerEntry s t).hourShow else (triggerEntry s t).quarterShow

/-- The count of a trigger (R25): the hour in 12-hour form, or the quarter number. -/
def triggerCount (t : Nat) : Nat :=
  if triggerQuarter t = 0 then (if triggerHour t % 12 = 0 then 12 else triggerHour t % 12) else triggerQuarter t

/-- The preroll of a show in microseconds, 0 where the directory holds no entry for it (R26). -/
def prerollOf (s : State) (id : Option Nat) : Nat := ((id.bind s.entryOf).map (·.preroll * 1000)).getD 0

/-- The posting instant of a trigger (R26). -/
def postingOf (s : State) (t : Nat) : Nat := dueOf t - prerollOf s (triggerShow s t)

/-- The first trigger whose posting instant is later than a reading (R26: postings come in the order of the due instants). -/
def firstPostingAfter (s : State) (r : Nat) : Nat :=
  let t := r / 900000000 + 1
  if r < postingOf s t then t else t + 1

/-- The last trigger whose posting instant is at or before a reading. -/
def lastPostingBy (s : State) (r : Nat) : Nat :=
  let t := r / 900000000
  if postingOf s (t + 1) ≤ r then t + 1 else t

/-- The first trigger after the last-posted trigger record (R27). -/
def afterRecord (s : State) : Nat :=
  match s.su.record with
  | .named t => t + 1
  | .clearSince r => firstPostingAfter s r

/-- The next trigger (R27, R28): none while the time-set flag is clear. -/
def nextTrigger (s : State) : Option Nat :=
  if s.tb.timeSet ∧ afterRecord s < Config.spanTriggers then some (afterRecord s) else none

/-- The next trigger, where the wall clock has reached its posting instant (R27). -/
def dueTrigger (s : State) : Option Nat := (nextTrigger s).filter fun t => decide (postingOf s t ≤ s.tb.reading)

/-- How many triggers have their posting instant reached, from the next one on (R27). -/
def triggersReached (s : State) : Nat :=
  match nextTrigger s with
  | none => 0
  | some t => lastPostingBy s s.tb.reading + 1 - t

/-! ## The show queue -/

def modCounters (f : ScheduleCounters → ScheduleCounters) (s : State) : State :=
  s.modSu fun u => { u with counters := f u.counters }

def countPosted : State → State := modCounters fun c => { c with posted := satInc c.posted }
def countSkipped : State → State := modCounters fun c => { c with skipped := satInc c.skipped }
def countSuppressed : State → State := modCounters fun c => { c with suppressed := satInc c.suppressed }

/-- MISSING, LATE and DROPPED_FULL raise SHOW_DISCARDED (R38). -/
def countMissing (s : State) : State :=
  raise .showDiscarded (modCounters (fun c => { c with missing := satInc c.missing }) s)
def countLate (s : State) : State :=
  raise .showDiscarded (modCounters (fun c => { c with late := satInc c.late }) s)
def countDroppedFull (s : State) : State :=
  raise .showDiscarded (modCounters (fun c => { c with droppedFull := satInc c.droppedFull }) s)

def setQueue (q : List ShowRequest) (s : State) : State := s.modSu fun u => { u with queue := q }

/-- The queue without its oldest QUARTER request; none where there is none (R32). -/
def evictQuarter : List ShowRequest → Option (List ShowRequest)
  | [] => none
  | r :: rest => if r.origin = .quarter then some rest else (evictQuarter rest).map (r :: ·)

/-- A trigger's request is posted (R32). -/
def postRequest (r : ShowRequest) (s : State) : State :=
  if s.su.queue.length < 4 then countPosted (setQueue (s.su.queue ++ [r]) s)
  else if r.origin = .hour then
    match evictQuarter s.su.queue with
    | some q => countPosted (setQueue (q ++ [r]) (countDroppedFull s))
    | none => countDroppedFull s
  else countDroppedFull s

/-- The queue is flushed, each request counted SUPPRESSED (R35). -/
def flushQueue (s : State) : State := setQueue [] (forEach (fun _ => countSuppressed) s.su.queue s)

/-- The record names a trigger (R27). -/
def setRecord (r : TriggerRecord) (s : State) : State := s.modSu fun u => { u with record := r }

/-- The request a trigger forms (R31), posted at the present reading. -/
def triggerRequest (s : State) (t id : Nat) : ShowRequest :=
  { id := id
    origin := if triggerQuarter t = 0 then .hour else .quarter
    count := triggerCount t
    mode := (triggerEntry s t).mode
    due := dueOf t
    posting := s.tb.reading
    given := false }

/-- The directory is neither VALID nor PARTIAL, or the presentation state is neither RUN nor QUIET (R27, case 2). -/
def postingBarred (s : State) : Bool := s.partLocked || !s.presenting

/-- The cases of R27 for one trigger, without the move of the record. In catch-up, `tooOld` is set where the candidate's due instant
is earlier than R29 allows. -/
def judgeTrigger (t : Nat) (tooOld : Bool) (s : State) : State :=
  match triggerShow s t with
  | none => s
  | some id =>
    if postingBarred s then countSuppressed s
    else
      match s.entryOf id with
      | none => countMissing s
      | some e =>
        if e.stale then countMissing s
        else if tooOld then countSkipped s
        else postRequest (triggerRequest s t id) s

/-- The next trigger is handled (R27). -/
def handleTrigger (t : Nat) (s : State) : State := setRecord (.named t) (judgeTrigger t false s)

/-! ## Steps (R28 to R30) -/

/-- Each of `n` triggers from `t` on is counted SKIPPED, but for the candidate and those whose show is NONE (R29). -/
def skipPassed (candidate : Option Nat) : Nat → Nat → State → State
  | 0, _, s => s
  | n + 1, t, s =>
    skipPassed candidate n (t + 1) (if candidate = some t ∨ triggerShow s t = none then s else countSkipped s)

/-- The latest hour trigger from `lo` to `hi` (R29). -/
def catchUpCandidate (lo hi : Nat) : Option Nat := if lo ≤ hi / 4 * 4 then some (hi / 4 * 4) else none

/-- The catch-up rule for a forward step (R29). -/
def catchUp (before after : Nat) (s : State) : State :=
  let lo := max (afterRecord s) (firstPostingAfter s before)
  let hi := min (lastPostingBy s after) (Config.spanTriggers - 1)
  if hi < lo then s
  else
    let c := catchUpCandidate lo hi
    let s1 := skipPassed c (hi + 1 - lo) lo s
    let s2 :=
      match c with
      | none => s1
      | some t => judgeTrigger t (s1.lateLimit.any fun l => decide (dueOf t + l < after)) s1
    setRecord (.named hi) s2

/-- The rule for a backward step (R30). -/
def stepBack (after : Nat) (s : State) : State :=
  match s.su.record with
  | .clearSince _ => s
  | .named t => if after + 3600000000 < dueOf t then setRecord (.clearSince after) s else s

/-- The Schedule Unit judges a step from its two readings (R28 to R30, R22); `wasSet` is the time-set flag before it. -/
def scheduleStep (before after : Nat) (wasSet : Bool) (source : StepSource) (s : State) : State :=
  let s := evaluateSeason s
  if wasSet then
    if before < after then catchUp before after s else if after < before then stepBack after s else s
  else
    match source with
    | .host => setRecord (.clearSince after) s
    | .pps => s

/-- The reading after a step (R10). -/
def steppedReading (reading : Nat) (delta : Int) : Nat := ((reading + delta) % (Config.spanMicros : Int)).toNat

/-- The wall clock takes a step (R10, items 1 to 4). -/
def TimeBase.stepBy (delta : Int) (source : StepSource) (t : TimeBase) : TimeBase :=
  let after := steppedReading t.reading delta
  { t with
    reading := after
    second := after / secondMicros
    holdEnd := none
    slew := 0
    timeSet := t.timeSet || source == .host }

/-- A step is applied (R10). -/
def applyStep (delta : Int) (source : StepSource) (s : State) : State :=
  let before := s.tb.reading
  let wasSet := s.tb.timeSet
  let s := raise .timeStepped (s.modTb (·.stepBy delta source))
  scheduleStep before s.tb.reading wasSet source s

/-- The pending step, if any, is applied and becomes none (R9). -/
def applyPending (s : State) : State :=
  match s.tb.pendingStep with
  | none => s
  | some p => applyStep p.delta p.source (s.modTb fun t => { t with pendingStep := none })

end Sys2Proof.Machine
end

