-- ==== Sys2Proof/Machine/Library.lean ====
section
/-! DEFINITION. The Library Unit (chapter 3): the Store Port and its arbiter, the walk along the record chain, the validation of
records and of the installation profile, and what a store operation leaves. The end of a walk is Supervise's. -/

namespace Sys2Proof.Machine

/-! ## The Store Port (R41, R42) -/

/-- The transfer a walk asks for (R43 to R45). -/
def WalkPhase.transfer : WalkPhase → Transfer
  | .poll _ => .readStatus
  | .header => .read 0 16
  | .recordHeader a => .read a 16
  | .recordBody h got => .read (h.address + got.length) (min 256 (h.length - got.length))

/-- The transfer a store operation asks for (R55 to R57); none while a RESCAN's walk runs. -/
def StoreOp.transfer (o : StoreOp) : Option Transfer :=
  match o.phase with
  | .poll _ => some .readStatus
  | .reading => some (.read o.address o.length)
  | .writeEnable => some .writeEnable
  | .change => some (if o.kind = .erase then .sectorErase o.address else .pageProgram o.address o.data)
  | .after _ _ => some .readStatus
  | .walking => none

/-- A flash address in its three address bytes, most significant first. -/
def flashAddress (a : Nat) : List Byte := beBytes a 3

/-- The bytes the part sends in a transfer (table of R41). -/
def Transfer.sent : Transfer → List Byte
  | .read a _ => 0x03 :: flashAddress a
  | .writeEnable => [0x06]
  | .pageProgram a data => 0x02 :: flashAddress a ++ data
  | .sectorErase a => 0x20 :: flashAddress a
  | .readStatus => [0x05]

/-- Bytes the flash returns in a transfer (table of R41). -/
def Transfer.returns : Transfer → Nat
  | .read _ n => n
  | .readStatus => 1
  | .writeEnable | .pageProgram _ _ | .sectorErase _ => 0

/-- The arbiter grants a free port: to the walk, then to the oldest prefetch read, then to the store operation (R42). -/
def LibraryUnit.grant (u : LibraryUnit) : LibraryUnit :=
  match u.port with
  | some _ => u
  | none =>
    match u.walk with
    | some w => { u with port := some ⟨.walk, w.phase.transfer, false⟩ }
    | none =>
      match u.prefetch with
      | r :: rest => { u with port := some ⟨.prefetch, .read r.address r.length, false⟩, prefetch := rest }
      | [] =>
        match u.storeOp.bind StoreOp.transfer with
        | some t => { u with port := some ⟨.store, t, false⟩ }
        | none => u

/-- SCS_N is driven low from the beginning of a transfer to its end (R41). -/
def scsLow (s : State) : Bool := s.lu.port.isSome

def grantPort (s : State) : State := s.modLu LibraryUnit.grant

/-- The port is released at the end of its transfer. -/
def freePort (s : State) : State := s.modLu fun u => { u with port := none }

/-- The transfer that ends now for a requester, with the bytes it returned: none where the port is not carrying out a transfer of
that requester, or the bytes are not as many as the transfer asked. -/
def endedTransfer (q : Requester) (data : List Byte) (s : State) : Option PortUse :=
  match s.lu.port with
  | none => none
  | some u => if u.requester = q ∧ data.length = u.transfer.returns then some u else none

/-- The busy bit of a status byte (R41). -/
def busyBit (data : List Byte) : Bool := (data.getD 0 0).getLsbD 0

/-- Every prefetch read that has not begun is withdrawn, and the bytes of one in progress will be discarded (R42, R73). -/
def withdrawPrefetch (s : State) : State :=
  s.modLu fun u =>
    { u with
      prefetch := []
      port := u.port.map fun p => if p.requester = .prefetch then { p with discard := true } else p }

/-! ## The installation profile (R50, R202, 11.4) -/

/-- The two low bits of a number as a code. -/
def codeOf (n : Nat) : BitVec 2 := BitVec.ofNat 2 n

/-- A bell entry of 25 bytes at an offset. -/
def bellEntryAt (p : List Byte) (i : Nat) : BellProfile :=
  { wmin := numAt p i 2
    wmax := numAt p (i + 2) 2
    wlim := numAt p (i + 4) 2
    current := numAt p (i + 6) 2
    lead := numAt p (i + 8) 2
    trec := byteAt p (i + 10)
    limitCode := codeOf (byteAt p (i + 11) / 16)
    blankCode := codeOf (byteAt p (i + 11) / 4)
    retryCode := codeOf (byteAt p (i + 11))
    autoretry := (byteAt p (i + 12)).testBit 0
    hasDamper := (byteAt p (i + 12)).testBit 1
    hasPickup := (byteAt p (i + 12)).testBit 2
    dampTime := numAt p (i + 13) 2
    verifyWindow := byteAt p (i + 15)
    k := byteAt p (i + 16)
    hwarn := numAt p (i + 17) 4
    hmax := numAt p (i + 21) 4 }

/-- An axis entry of 48 bytes at an offset; the checks of R50 judge the values these readings cannot hold. -/
def axisEntryAt (p : List Byte) (i : Nat) : AxisProfile :=
  { kind := match byteAt p i with | 0 => .rotary | 1 => .linear | _ => .door
    policy := if byteAt p (i + 1) = 1 then .shortest else .forwardOnly
    size := numAt p (i + 2) 2
    poses := (List.range 16).map fun n => numAt p (i + 4 + 2 * n) 2
    travelDuty := byteAt p (i + 36)
    creepDuty := byteAt p (i + 37)
    approach := numAt p (i + 38) 2
    stallWindow := numAt p (i + 40) 2
    travelTimeout := byteAt p (i + 42)
    limitCode := codeOf (byteAt p (i + 43) / 16)
    blankCode := codeOf (byteAt p (i + 43) / 4)
    retryCode := codeOf (byteAt p (i + 43))
    autoretry := (byteAt p (i + 44)).testBit 0
    guardDoor := axisOf (byteAt p (i + 45))
    leader := axisOf (byteAt p (i + 46))
    follow := if byteAt p (i + 47) = 1 then .mirror else .same }

def bellOffset (b : Nat) : Nat := 32 + 25 * b
def axisOffset (a : Nat) : Nat := 632 + 48 * a

/-- The profile an INSTALL record holds (11.4). -/
def profileAt (p : List Byte) : Profile :=
  { bellsPresent := BitVec.ofNat 24 (numAt p 16 3)
    axesPresent := BitVec.ofNat 8 (byteAt p 19)
    iBudget := numAt p 20 2
    vn := numAt p 22 2
    vwarn := numAt p 24 2
    vuv := numAt p 26 2
    slackMs := byteAt p 28
    lateLimitS := numAt p 29 2
    codaTimeoutS := byteAt p 31
    bells := Vector.ofFn fun b : Fin 24 => bellEntryAt p (bellOffset b.val)
    axes := Vector.ofFn fun a : Fin 8 => axisEntryAt p (axisOffset a.val) }

/-- Rows 1 to 3 of R50. -/
def globalCheck (row : Nat) (p : Profile) : Bool :=
  match row with
  | 1 => decide (500 ≤ p.iBudget ∧ p.iBudget ≤ 20000)
  | 2 => decide (1200 ≤ p.vn ∧ p.vn ≤ 4800 ∧ p.vuv < p.vwarn ∧ p.vwarn < p.vn)
  | 3 => decide (p.slackMs ≤ 50 ∧ p.lateLimitS ≤ 600 ∧ 10 ≤ p.codaTimeoutS ∧ p.codaTimeoutS ≤ 120)
  | _ => true

/-- Rows 4 to 8 of R50, of one present bell. -/
def bellCheck (row : Nat) (p : Profile) (b : BellProfile) : Bool :=
  match row with
  | 4 => decide (500 ≤ b.wmin ∧ b.wmin ≤ 20000 ∧ b.wmin ≤ b.wmax ∧ b.wmax ≤ b.wlim ∧ b.wlim ≤ 40000)
  | 5 => decide (100 ≤ b.current ∧ b.current ≤ 5000 ∧ b.current ≤ p.iBudget)
  | 6 => decide (b.lead ≤ 30000 ∧ 10 ≤ b.trec ∧ b.trec ≤ 250)
  | 7 => decide ((b.hasDamper → 20 ≤ b.dampTime ∧ b.dampTime ≤ 500) ∧
      (b.hasPickup → 2 ≤ b.verifyWindow ∧ b.verifyWindow ≤ 30))
  | 8 => decide (1 ≤ b.k ∧ b.k ≤ 64 ∧ b.hwarn < b.hmax ∧ b.hmax ≤ 2000000 ∧ 1000 ≤ b.hmax - b.hwarn)
  | _ => true

/-- The axis a byte names is present and of the kind wanted (rows 12 and 13 of R50). -/
def namesAxis (p : Profile) (n : Nat) (ok : AxisProfile → Bool) : Bool :=
  match axisOf n with
  | none => false
  | some x => p.axesPresent.getLsbD x.val && ok p.axes[x]

/-- Rows 9 to 13 of R50, of one present axis `a` whose entry begins at `axisOffset a`. A kind or policy that 11.4 does not name fails row 9 on
an axis of any kind, and such a follow mode fails row 13 when a leader is named (R202). -/
def axisCheck (row : Nat) (bytes : List Byte) (p : Profile) (a : Axis) : Bool :=
  let i := axisOffset a.val
  let x := p.axes[a]
  match row with
  | 9 => decide (byteAt bytes i ≤ 2 ∧ byteAt bytes (i + 1) ≤ 1) &&
      (match x.kind with
       | .rotary => decide (2 ≤ x.size ∧ x.size ≤ 4096)
       | .linear => decide (1 ≤ x.size ∧ x.size ≤ 65535)
       | .door => true)
  | 10 => decide (x.poses.getD 0 0 = 0) &&
      (match x.kind with
       | .rotary => x.poses.all fun q => decide (q < x.size)
       | .linear => x.poses.all fun q => decide (q ≤ x.size)
       | .door => true)
  | 11 => decide (1 ≤ x.travelDuty ∧ 1 ≤ x.creepDuty ∧ 50 ≤ x.stallWindow ∧ x.stallWindow ≤ 2000 ∧
      1 ≤ x.travelTimeout ∧ x.travelTimeout ≤ 60)
  | 12 => byteAt bytes (i + 45) == 255 || (x.kind != .door && namesAxis p (byteAt bytes (i + 45)) (·.kind == .door))
  | 13 => byteAt bytes (i + 46) == 255 ||
      (x.kind != .door && byteAt bytes (i + 46) != a.val && decide (byteAt bytes (i + 47) ≤ 1) &&
        namesAxis p (byteAt bytes (i + 46)) (fun y => y.kind == x.kind && y.size == x.size) &&
        byteAt bytes (axisOffset (byteAt bytes (i + 46)) + 46) == 255)
  | _ => true

/-- The first scope that fails one row. -/
def rowFailure (bytes : List Byte) (p : Profile) (row : Nat) : Option CheckScope :=
  if !globalCheck row p then some .global
  else
    match allBells.find? fun b => p.bellsPresent.getLsbD b.val && !bellCheck row p p.bells[b] with
    | some b => some (.bell b.val)
    | none => (allAxes.find? fun a => p.axesPresent.getLsbD a.val && !axisCheck row bytes p a).map (.axis ·.val)

/-- The first failed check, row by row (R50). -/
def firstFailure (bytes : List Byte) (p : Profile) : List Nat → Option (Nat × CheckScope)
  | [] => none
  | row :: rest =>
    match rowFailure bytes p row with
    | some sc => some (row, sc)
    | none => firstFailure bytes p rest

def profileRows : List Nat := [1, 2, 3, 4, 5, 6, 7, 8, 9, 10, 11, 12, 13]

/-! ## Records (R47 to R49) -/

/-- A count of the walk report raised. -/
def modReport (f : WalkReport → WalkReport) (s : State) : State := s.modLu fun u => { u with report := f u.report }
def modWalk (f : Walk → Walk) (s : State) : State := s.modLu fun u => { u with walk := u.walk.map f }

def countDuplicate : State → State := modReport fun r => { r with duplicate := r.duplicate + 1 }
def countBadContent : State → State := modReport fun r => { r with badContent := r.badContent + 1 }
def countUnknown : State → State := modReport fun r => { r with unknown := r.unknown + 1 }

/-- A record is counted BAD_CRC (R45); the first one's address is kept. -/
def countBadCrc (address : Nat) : State → State :=
  modReport fun r => { r with badCrc := r.badCrc + 1, firstBad := r.firstBad.or (some address) }

/-- The tempo table of a SHOW record: tempo and ramp length of each entry (11.4). -/
def temposAt (p : List Byte) : List (Nat × Nat) :=
  (List.range (byteAt p 29)).map fun n => (numAt p (32 + 4 * n) 2, numAt p (34 + 4 * n) 2)

/-- The directory entry of a SHOW record (3.3). -/
def dirEntryAt (h : RecordHeader) (p : List Byte) : DirEntry :=
  { id := h.id
    address := h.address
    length := h.length
    scoreAddress := h.address + numAt p 16 2
    scoreLength := numAt p 18 2
    preroll := numAt p 20 2
    startTempo := numAt p 22 2
    tempos := temposAt p
    doors := BitVec.ofNat 8 (byteAt p 24)
    axes := BitVec.ofNat 8 (byteAt p 25)
    bells := BitVec.ofNat 24 (numAt p 26 3)
    stale := false }

/-- A SHOW record's content is good (R47, R202). -/
def showOk (h : RecordHeader) (p : List Byte) : Bool :=
  decide (h.id ≤ 63 ∧ numAt p 20 2 ≤ 30000 ∧ 32 + 4 * byteAt p 29 ≤ numAt p 16 2 ∧ numAt p 16 2 % 4 = 0 ∧
    numAt p 16 2 + 4 * numAt p 18 2 ≤ h.length)

def useShow (h : RecordHeader) (p : List Byte) (s : State) : State :=
  if !showOk h p then countBadContent s
  else if (s.entryOf h.id).isSome then countDuplicate s
  else
    modReport (fun r => { r with showsLoaded := r.showsLoaded + 1 })
      (s.modLu fun u => { u with directory := u.directory ++ [dirEntryAt h p] })

/-- The steps of a POSELIST record (11.4). -/
def stepsAt (p : List Byte) : List (Nat × Nat) :=
  (List.range (byteAt p 17)).map fun n => (byteAt p (20 + 4 * n), numAt p (22 + 4 * n) 2)

/-- A POSELIST record's content is good (R48, R202). -/
def poseListOk (h : RecordHeader) (p : List Byte) : Bool :=
  decide (h.id ≤ 31 ∧ 1 ≤ byteAt p 17 ∧ byteAt p 17 ≤ 16 ∧ h.length = 20 + 4 * byteAt p 17) &&
    (stepsAt p).all fun x => decide (x.1 ≤ 15 ∧ x.2 ≤ 60000)

/-- The pose list of an id, none where it is empty. -/
def State.poseList (s : State) (id : Nat) : Option PoseList := (s.lu.poseLists[id]?).join

def usePoseList (h : RecordHeader) (p : List Byte) (s : State) : State :=
  if !poseListOk h p then countBadContent s
  else if (s.poseList h.id).isSome then countDuplicate s
  else
    modReport (fun r => { r with listsLoaded := r.listsLoaded + 1 })
      (s.modLu fun u =>
        { u with poseLists := u.poseLists.setIfInBounds h.id (some ⟨flagAt p 16, stepsAt p⟩) })

/-- The INSTALL record (R49, R50): the outcome of its validation is kept until the walk ends. -/
def useInstall (h : RecordHeader) (p : List Byte) (s : State) : State :=
  if s.lu.report.install.isSome then countDuplicate s
  else
    let failed := if h.length = 1016 then firstFailure p (profileAt p) profileRows else none
    let good := decide (h.length = 1016) && failed.isNone
    modWalk (fun w => { w with install := some (if good then some (profileAt p) else none) })
      (modReport (fun r => { r with install := some (h.address, h.length), failedCheck := failed }) s)

def useSeasons (h : RecordHeader) (p : List Byte) (s : State) : State :=
  if s.lu.report.seasons.isSome then countDuplicate s
  else
    let s := modReport (fun r => { r with seasons := some (h.address, h.length) }) s
    if h.length < 144 then countBadContent s else modWalk (fun w => { w with seasonsBody := some p }) s

def useProgrammes (h : RecordHeader) (p : List Byte) (s : State) : State :=
  if s.lu.report.programmes.isSome then countDuplicate s
  else
    let s := modReport (fun r => { r with programmes := some (h.address, h.length) }) s
    if h.length < 592 then countBadContent s else modWalk (fun w => { w with programmesBody := some p }) s

/-- A record whose CRC matches is handled by its kind (R45, 11.4). -/
def useRecord (h : RecordHeader) (p : List Byte) (s : State) : State :=
  match h.kind with
  | 1 => useInstall h p s
  | 2 => useShow h p s
  | 3 => usePoseList h p s
  | 4 => useSeasons h p s
  | 5 => useProgrammes h p s
  | 6 => s
  | _ => countUnknown s

/-! ## The walk (R43 to R46) -/

/-- The library header is good (R44). -/
def headerOk (p : List Byte) : Bool :=
  numAt p 0 4 == 0x4C4A4C42 && numAt p 4 2 == Config.formatVersion && (recordCrc p).toNat == numAt p 14 2

/-- A record header's fields (11.4). -/
def recordHeaderAt (address : Nat) (p : List Byte) : RecordHeader :=
  ⟨address, byteAt p 0, byteAt p 1, numAt p 2 2, numAt p 4 4⟩

/-- A next pointer is judged (R46): the walk ends, or visits the record it names. -/
def judgeNext (current next visited : Nat) : WalkReason ⊕ WalkPhase :=
  if next = 0 then .inl .chainEnd
  else if next ≤ current then .inl .backward
  else if Config.storeSize < next + 16 then .inl .outOfRange
  else if 256 ≤ visited then .inl .limit
  else .inr (.recordHeader next)

/-- The walk follows a judged pointer: its new phase, or the reason it ends. -/
def followPointer (current next : Nat) (s : State) : State × Option WalkReason :=
  match judgeNext current next s.lu.report.visited with
  | .inl r => (s, some r)
  | .inr ph => (modWalk (fun w => { w with phase := ph }) s, none)

/-- A record header has been read (R45). -/
def visitRecord (h : RecordHeader) (s : State) : State × Option WalkReason :=
  let s := modReport (fun r => { r with visited := r.visited + 1, lastVisited := some h.address }) s
  if h.length < 16 ∨ Config.storeSize < h.address + h.length then
    followPointer h.address h.next (countBadCrc h.address s)
  else (modWalk (fun w => { w with phase := .recordBody h [] }) s, none)

/-- A part of a record has been read; a whole record is checked and used (R45). -/
def readRecord (h : RecordHeader) (got : List Byte) (s : State) : State × Option WalkReason :=
  if got.length < h.length then (modWalk (fun w => { w with phase := .recordBody h got }) s, none)
  else if (recordCrc got).toNat = numAt got 14 2 then followPointer h.address h.next (useRecord h got s)
  else followPointer h.address h.next (countBadCrc h.address s)

/-- The walk takes the bytes of the transfer it asked for (R43 to R46): its next state, and the reason where it ends. -/
def walkStep (ph : WalkPhase) (data : List Byte) (s : State) : State × Option WalkReason :=
  match ph with
  | .poll first =>
    if busyBit data then (modWalk (fun w => { w with phase := .poll (first.or (some s.now)) }) s, none)
    else (modWalk (fun w => { w with phase := .header }) s, none)
  | .header => if headerOk data then followPointer 0 (numAt data 6 4) s else (s, some .headerBad)
  | .recordHeader a => visitRecord (recordHeaderAt a data) s
  | .recordBody h got => readRecord h (got ++ data) s

/-! ## Tables (R39) -/

/-- The Schedule Unit's tables are emptied at the start of a walk (R39). -/
def emptyTables (s : State) : State :=
  s.modSu fun u =>
    { u with
      seasons := Vector.replicate 16 SeasonEntry.empty
      programmes := Vector.replicate 8 (Vector.replicate 24 HourEntry.empty) }

/-- A walk's start in the Library Unit (R43): the tables it builds are emptied, the working profile is kept. -/
def startWalk (s : State) : State :=
  emptyTables (s.modLu fun u =>
    { u with
      dirState := .scanning
      directory := []
      poseLists := Vector.replicate 32 none
      report := WalkReport.start
      walk := some Walk.start })

/-- A SEASONS record replaces the season table; an entry SET_SEASON would refuse is loaded empty and counted (R39). -/
def loadSeasons (p : List Byte) (s : State) : State :=
  let bad := (List.range 16).countP fun i => !(seasonAt p (16 + 8 * i)).ok
  modReport (fun r => { r with emptySeasons := bad })
    (s.modSu fun u =>
      { u with seasons := Vector.ofFn fun i : Fin 16 =>
          let e := seasonAt p (16 + 8 * i.val)
          if e.ok then e else SeasonEntry.empty })

/-- The offset of an hour entry in a PROGRAMMES record (11.4). -/
def hourOffset (programme hour : Nat) : Nat := 16 + 72 * programme + 3 * hour

/-- A PROGRAMMES record replaces the programme table; an entry SET_HOUR would refuse is loaded empty and counted (R39). -/
def loadProgrammes (p : List Byte) (s : State) : State :=
  let bad := (List.range 192).countP fun i => (hourEntryAt p (16 + 3 * i)).isNone
  modReport (fun r => { r with emptyHours := bad })
    (s.modSu fun u =>
      { u with programmes := Vector.ofFn fun pr : Fin 8 => Vector.ofFn fun h : Fin 24 =>
          (hourEntryAt p (hourOffset pr.val h.val)).getD HourEntry.empty })

/-- The records found are handed to the Schedule Unit, which evaluates its season (R39, R51 step 4). -/
def loadTables (w : Walk) (s : State) : State :=
  let s := match w.seasonsBody with | some p => loadSeasons p s | none => s
  let s := match w.programmesBody with | some p => loadProgrammes p s | none => s
  evaluateSeason s

/-! ## Store operations (R54 to R59) -/

/-- Ranges of bytes that share at least one. -/
def sharesByte (a n b m : Nat) : Bool := decide (0 < n ∧ 0 < m ∧ a < b + m ∧ b < a + n)

/-- The range a store operation changed (R59): the bytes of a write, the sector of an erase. -/
def StoreOp.changed (o : StoreOp) : Option (Nat × Nat) :=
  match o.kind with
  | .write | .erase => some (o.address, o.length)
  | .read | .rescan => none

/-- Directory entries that share a byte with a changed range become STALE (R59). -/
def markStale (a n : Nat) (s : State) : State :=
  s.modLu fun u =>
    { u with directory := u.directory.map fun e => if sharesByte a n e.address e.length then { e with stale := true } else e }

/-- The changed range reaches the INSTALL record of the last walk while the directory is VALID or PARTIAL (R59). -/
def reachesInstall (a n : Nat) (s : State) : Bool :=
  !s.partLocked && s.lu.report.install.any fun r => sharesByte a n r.1 r.2

/-- The operation in flight ends and its result is held; STORE_DONE is raised (R58). -/
def holdResult (o : StoreOp) (outcome : StoreOutcome) (data : List Byte) (s : State) : State :=
  raise .storeDone (s.modLu fun u =>
    { u with
      storeOp := none
      storeResult := some ⟨o.kind, o.address, o.length, outcome, data⟩
      port := u.port.map fun p => if p.requester = .store then { p with discard := true } else p })

/-- A store operation that passed its checks is taken: the held result is discarded and the operation is in flight (R54). -/
def takeStoreOp (o : StoreOp) (s : State) : State :=
  s.modLu fun u => { u with storeOp := some o, storeResult := none }.grant

end Sys2Proof.Machine
end

