-- ==== Sys2Proof/Machine/Strike.lean ====
section
/-! DEFINITION. The Strike Unit (chapters 5 and 6): the strike queue, admission at the head, the pulse computation, firing and the
ends of a pulse, faults, heat, dampers, verification and the quality counter, and its reports to the engine (R75, R87, R107). -/

namespace Sys2Proof.Machine

/-! ## Reports -/

/-- A report enters the current performance when it carries that performance's sequence number (R75, R107). -/
def reportPerf (seq : Option Nat) (f : Performance → Performance) (s : State) : State :=
  if s.performing then
    s.modPe fun e => { e with perf := e.perf.map fun p => if seq = some p.seq then f p else p }
  else s

/-- A self-test's bell has its result (R87): only a bell that was handed over and has none yet. -/
def reportTest (b : Bell) (r : BellResult) (s : State) : State :=
  if s.pe.selfTest.outstanding.contains b then
    s.modPe fun e =>
      { e with selfTest :=
          { e.selfTest with
            results := e.selfTest.results.set b r
            outstanding := e.selfTest.outstanding.filter (· != b) } }
  else s

/-- A report of a strike request to its origin (R107): `f` for a SCORE request's performance, `r` for a SELFTEST's bell. -/
def reportOrigin (q : StrikeRequest) (f : Performance → Performance) (r : Option BellResult) (s : State) : State :=
  match q.origin with
  | .score => reportPerf q.seq f s
  | .test => s
  | .selfTest =>
    match r with
    | some r => reportTest q.bell r s
    | none => s

def Performance.countFired (p : Performance) : Performance :=
  { p with counters := { p.counters with fired := satInc p.counters.fired } }
def Performance.countMiss (p : Performance) : Performance :=
  { p with counters := { p.counters with misses := satInc p.counters.misses } }

/-- A drop enters the performance; a drop as MUTED also sets MUTED_PART (R75). -/
def Performance.countDropped (reason : DropReason) (p : Performance) : Performance :=
  { p with
    counters := { p.counters with dropped := satInc p.counters.dropped }
    flags := { p.flags with mutedPart := p.flags.mutedPart || reason == .muted } }

/-! ## Quality counter (R128 to R130) -/

/-- One event of the counter's source (R128). -/
def qualityCount (s : State) : State :=
  let q := s.st.quality
  let full := q.count = 65534 ∧ q.fullReported = false
  let s' := s.modSt fun u =>
    { u with quality := { u.quality with
        count := satInc u.quality.count
        fullReported := u.quality.fullReported || decide full } }
  if full then raise .counterFull s' else s'

/-- The sources that count a drop (R128). -/
def QualitySource.countsDrop (src : QualitySource) (reason : DropReason) : Bool :=
  match src, reason with
  | .thermalDrops, .thermal => true
  | .lateDrops, .late => true
  | .allDrops, .overflow | .allDrops, .channelFault | .allDrops, .late | .allDrops, .thermal => true
  | _, _ => false

/-- A drop is offered to the quality counter (R107, R128). -/
def qualityDrop (reason : DropReason) (s : State) : State :=
  if s.st.quality.source.countsDrop reason then qualityCount s else s

/-- A MISS verdict is offered to the quality counter (R127, R128). -/
def qualityMiss (s : State) : State := if s.st.quality.source = .misses then qualityCount s else s

/-- A transfer (R130). -/
def qualityTransfer (s : State) : State :=
  s.modSt fun u => { u with quality := { u.quality with held := u.quality.count, count := 0, fullReported := false } }

/-! ## Heat (R121, R122) -/

/-- The thermal state after a judgment (R122). -/
def thermalState (hwarn : Nat) (warm : Bool) (heat : Nat) : Bool :=
  if warm then decide (7 * hwarn / 8 ≤ heat) else decide (hwarn ≤ heat)

/-- A bell's thermal state is judged; a bell absent from the working profile is COOL (R122). -/
def judgeThermal (b : Bell) (s : State) : State :=
  s.modChan b fun c => { c with warm := s.bellPresent b && thermalState (s.bellProfile b).hwarn c.warm c.heat }

/-- The BELL_WARM level: true while at least one bell is WARM (R122). -/
def reportWarm (s : State) : State := setLevel .bellWarm (s.st.channels.toList.any (·.warm)) s

/-- The heat estimate after a decay tick (R121). -/
def decayHeat (k heat : Nat) : Nat := if heat * k / 256 = 0 then heat - 1 else heat - heat * k / 256

/-- One bell's part of a decay tick (R121). -/
def decayBell (b : Bell) (s : State) : State :=
  if s.bellPresent b then
    judgeThermal b (s.modChan b fun c => { c with heat := decayHeat (s.bellProfile b).k c.heat })
  else s

/-! ## Pulse computation (R103 to R106) -/

/-- The clamped supply reading (R104). -/
def clampSupply (vn vm : Nat) : Nat := min (max vm (3 * vn / 4)) (5 * vn / 4)

/-- The stage values of a pulse computation (R103 to R106). -/
def computeStages (p : BellProfile) (vn vm velocity heat : Nat) : Stages :=
  let w0 := p.wmin + (p.wmax - p.wmin) * (velocity - 1) / 126
  let vc := clampSupply vn vm
  let w1 := min (w0 * vn * vn / (vc * vc)) p.wlim
  let w2 :=
    if p.hmax ≤ heat then 0
    else if p.hwarn ≤ heat then w1 * (p.hmax - heat) / (p.hmax - p.hwarn)
    else w1
  ⟨vm, vc, w0, w1, w2, min w2 (p.hmax - heat), heat⟩

/-- Stage 5 gives a thermal drop (R106). -/
def thermalDrop (p : BellProfile) (g : Stages) : Bool := decide (g.w3 < p.wmin)

/-- The stage values for a request at the present instant (R103). -/
def stagesFor (q : StrikeRequest) (s : State) : Stages :=
  computeStages (s.bellProfile q.bell) ((s.lu.profile.map (·.vn)).getD 0)
    (s.sv.vm.getD (Config.unestablishedVm s.now)) q.velocity (s.chan q.bell).heat

/-! ## Drops (R91, R107 to R109) -/

def StrikeCounters.countDrop (reason : DropReason) (c : StrikeCounters) : StrikeCounters :=
  match reason with
  | .overflow => { c with overflow := satInc c.overflow }
  | .muted => { c with muted := satInc c.muted }
  | .channelFault => { c with channelFault := satInc c.channelFault }
  | .late => { c with late := satInc c.late }
  | .thermal => { c with thermal := satInc c.thermal }

/-- A strike request is dropped: the last strike record, the counters, the quality counter and the report to its origin. -/
def dropStrike (reason : DropReason) (stages : Option Stages) (q : StrikeRequest) (s : State) : State :=
  let s := s.modChan q.bell fun c =>
    { c with lastStrike := some ⟨q.origin, q.velocity, q.due, .dropped reason, s.now, stages, none⟩ }
  let s := s.modSt fun u => { u with counters := u.counters.countDrop reason }
  reportOrigin q (Performance.countDropped reason) (some (.dropped reason)) (qualityDrop reason s)

/-! ## Verification (R126, R127) -/

/-- The verification outcome of the last strike record (R132). DESIGN CHOICE (log entry 62): where a later drop has taken the record's
place, the drop keeps no outcome. -/
def Channel.setVerify (o : VerifyOutcome) (c : Channel) : Channel :=
  { c with lastStrike := c.lastStrike.map fun l =>
      match l.outcome with
      | .fired _ => { l with verify := some o }
      | .dropped _ => l }

/-- A verdict from the heard flag (R127). -/
def verdict (b : Bell) (heard : Bool) (s : State) : State :=
  let q := (s.chan b).strike
  let s := s.modChan b fun c =>
    { c.setVerify (if heard then .heard else .miss) with
      verification := .none
      strike := none
      missCount := if heard then c.missCount else min (c.missCount + 1) 255 }
  let s := if heard then s else qualityMiss s
  match q with
  | none => s
  | some q =>
    if heard then reportOrigin q id (some .pass) s else reportOrigin q Performance.countMiss (some .miss) s

/-- The verification of the previous pulse is closed with its verdict at the bell's next firing (R126). -/
def closeVerification (b : Bell) (s : State) : State :=
  match (s.chan b).verification with
  | .none => s
  | .open _ heard => verdict b heard s
  | .awaitingEnd heard => verdict b heard s

/-! ## Firing (R99) -/

/-- The channel's part of a firing with the width `g.w3` (R99, R112, R116, R124, R126, R132). -/
def Channel.fire (q : StrikeRequest) (g : Stages) (p : BellProfile) (now : Nat) (hlim hprs : Bool) (c : Channel) : Channel :=
  { c with
    state := .pulse
    pulseStart := now
    pulseEnd := now + g.w3
    tripAt := if hlim then some (now + blankingTime p.blankCode + 1) else none
    presenceSeen := hprs
    presenceJudged := false
    trial := c.state == .retryReady
    admitted := p.current
    recoveryEnd := none
    heat := c.heat + g.w3
    dampEnd := none
    verification := if p.hasPickup then .open (now + p.verifyWindow * 1000) false else .none
    strike := some q
    lastStrike := some ⟨q.origin, q.velocity, q.due, .fired none, now, some g,
      some (if p.hasPickup then .pending else .noPickup)⟩ }

/-- A strike request is fired with the stage values of its computation (R99). -/
def fireStrike (q : StrikeRequest) (g : Stages) (s : State) : State :=
  let p := s.bellProfile q.bell
  let s := closeVerification q.bell s
  let s := s.modChan q.bell
    (·.fire q g p s.now (s.pins.hlim.getLsbD q.bell.val) (s.pins.hprs.getLsbD q.bell.val))
  let s := s.modSt fun u =>
    { u with sum := u.sum + p.current, counters := { u.counters with fired := satInc u.counters.fired } }
  reportOrigin q Performance.countFired none (reportWarm (judgeThermal q.bell s))

/-! ## Admission at the head (R94 to R97) -/

/-- What an examination decides of the head (R95). -/
inductive HeadDecision where
  | wait
  | drop (reason : DropReason) (stages : Option Stages)
  | fire (stages : Stages)
  deriving DecidableEq, Repr

/-- The strike slack of the working profile in microseconds (R94); 0 while there is none. -/
def State.slack (s : State) : Nat := (s.lu.profile.map (·.slackMs * 1000)).getD 0

/-- The head is blocked (R95, case 4): LOCKED, its channel in PULSE or RECOVERY, or no room in the current budget. -/
def headBlocked (q : StrikeRequest) (s : State) : Bool :=
  s.partLocked || (s.chan q.bell).state == .pulse || (s.chan q.bell).state == .recovery ||
    decide ((s.lu.profile.map (·.iBudget)).getD 0 < s.st.sum + (s.bellProfile q.bell).current)

/-- The cases of R95, the first that applies. -/
def judgeHead (q : StrikeRequest) (s : State) : HeadDecision :=
  if s.now < q.due then .wait
  else if !s.bellPresent q.bell then .drop .channelFault none
  else if (s.chan q.bell).state = .faultOff ∨ (s.chan q.bell).state = .lockedOut then .drop .channelFault none
  else if headBlocked q s then (if s.slack < s.now - q.due then .drop .late none else .wait)
  else if s.muted then .wait
  else if thermalDrop (s.bellProfile q.bell) (stagesFor q s) then .drop .thermal (some (stagesFor q s))
  else .fire (stagesFor q s)

def setStrikes (l : List StrikeRequest) (s : State) : State := s.modSt fun u => { u with queue := l }

/-- Examinations of one head after another until the queue is empty or its head waits (R94). -/
def examineFrom : List StrikeRequest → State → State
  | [], s => setStrikes [] s
  | q :: rest, s =>
    match judgeHead q s with
    | .wait => setStrikes (q :: rest) s
    | .drop reason stages => examineFrom rest (dropStrike reason stages q s)
    | .fire stages => examineFrom rest (fireStrike q stages s)

/-- The head of the strike queue is examined (R94). -/
def examineStrikes (s : State) : State := examineFrom s.st.queue s

/-! ## The queue (R91 to R93) -/

/-- An arriving entry's place: after every entry due no later, before every entry due later (R91). -/
def insertStrike (q : StrikeRequest) : List StrikeRequest → List StrikeRequest
  | [] => [q]
  | e :: rest => if e.due ≤ q.due then e :: insertStrike q rest else q :: e :: rest

/-- An arriving strike request (R92). -/
def strikeArrives (q : StrikeRequest) (s : State) : State :=
  if s.muted then dropStrike .muted none q s
  else if 32 ≤ s.st.queue.length then dropStrike .overflow none q s
  else
    let l := insertStrike q s.st.queue
    let s' := setStrikes l s
    if l.head? = some q ∧ s.st.queue.head? ≠ some q then examineStrikes s' else s'

/-- Every entry of the strike queue is dropped for one reason, head first. -/
def dropStrikes (r : DropReason) (s : State) : State := setStrikes [] (forEach (dropStrike r none) s.st.queue s)

/-- Every entry of the strike queue is dropped as MUTED (R93). -/
def flushStrikes (s : State) : State := dropStrikes .muted s

/-! ## Ends of a pulse (R100, R101) -/

def LastStrike.ends (k : PulseEndKind) (l : LastStrike) : LastStrike :=
  match l.outcome with
  | .fired _ => { l with outcome := .fired (some k) }
  | .dropped _ => l

/-- The gate goes inactive and the admitted current is released (R98, R100, R101), and the fault watch ends (R112). -/
def releaseCoil (b : Bell) (k : PulseEndKind) (s : State) : State :=
  let i := (s.chan b).admitted
  (s.modChan b fun c =>
    { c with admitted := 0, tripAt := none, lastStrike := c.lastStrike.map (·.ends k) }).modSt
    fun u => { u with sum := u.sum - i }

/-- A pulse cut by over-current, open coil or halt is not verified, and is reported as cut (R101, R126, R132). -/
def cutPulse (b : Bell) (k : PulseEndKind) (s : State) : State :=
  let q := (s.chan b).strike
  let s := releaseCoil b k s
  let s := s.modChan b fun c =>
    { (if c.verification = .none then c else c.setVerify .notVerified) with verification := .none, strike := none }
  match q with
  | none => s
  | some q => reportOrigin q id (some .incomplete) s

/-- Into RECOVERY for Trec (R100, R101). -/
def enterRecovery (b : Bell) (s : State) : State :=
  let e := s.now + (s.bellProfile b).trec * 1000
  s.modChan b fun c => { c with state := .recovery, recoveryEnd := some e }

/-- The verdict of a clean pulse, where its verification window has closed; a pulse without verification is reported so (R87, R126). -/
def verifyCleanEnd (b : Bell) (s : State) : State :=
  match (s.chan b).verification with
  | .open _ _ => s
  | .awaitingEnd heard => verdict b heard s
  | .none =>
    let q := (s.chan b).strike
    let s := s.modChan b fun c => { c with strike := none }
    match q with
    | none => s
    | some q => reportOrigin q id (some .noPickup) s

/-- The pulse ends cleanly (R100); a clean trial sets the fault count to 0 (R116). -/
def endPulseClean (b : Bell) (s : State) : State :=
  let s := releaseCoil b .clean s
  let s := s.modChan b fun c => { c with faultCount := if c.trial then 0 else c.faultCount, trial := false }
  examineStrikes (verifyCleanEnd b (enterRecovery b s))

/-- An open coil (R114): count raised, LOCKED_OUT, BELL_FAULT. -/
def openCoil (b : Bell) (s : State) : State :=
  let s := cutPulse b .openCoil s
  let s := s.modChan b fun c =>
    { c with
      state := .lockedOut
      faultCount := min (c.faultCount + 1) 3
      lastFault := some ⟨.openCoil, s.now, none⟩
      trial := false }
  examineStrikes (raise .bellFault s)

/-- An over-current (R113, R115). -/
def bellOverCurrent (b : Bell) (s : State) : State :=
  let s := cutPulse b .overcurrent s
  let p := s.bellProfile b
  let n := min ((s.chan b).faultCount + 1) 3
  let off := p.autoretry && decide (n < 3)
  let s := s.modChan b fun c =>
    { c with
      state := if off then .faultOff else .lockedOut
      offEnd := if off then some (s.now + retryOffTime p.retryCode) else none
      faultCount := n
      lastFault := some ⟨.overcurrent, s.now, some (tripLevel p.limitCode)⟩
      trial := false }
  examineStrikes (raise .bellFault s)

/-- A halt that cuts a pulse in flight ends it as HALT; the channel recovers and keeps its count and trial flag (R101, R117). `cut` is
true but where the rules differ on it (log entries 52 and 79). -/
def haltPulse (cut : Bool) (b : Bell) (s : State) : State :=
  if (s.chan b).state = .pulse ∧ cut = true then enterRecovery b (cutPulse b .halt s) else s

/-- A halt turns a damper OFF (R125). -/
def haltDamper (b : Bell) (s : State) : State := s.modChan b fun c => { c with dampEnd := none }

/-- A recovery ends (R102, R117): a halted trial goes back to RETRY_READY. DESIGN CHOICE (log entry 63): its trial flag stays set there. -/
def endRecovery (b : Bell) (s : State) : State :=
  examineStrikes (s.modChan b fun c =>
    { c with state := if c.trial then .retryReady else .ready, recoveryEnd := none })

/-- CLEAR_FAULT's effect on a channel by its state (R118). -/
def Channel.clearFault (c : Channel) : Channel :=
  match c.state with
  | .faultOff => { c with state := .ready, offEnd := none, faultCount := 0, trial := false }
  | .retryReady | .lockedOut => { c with state := .ready, faultCount := 0, trial := false }
  | .recovery | .pulse => { c with faultCount := 0, trial := false }
  | .ready => { c with faultCount := 0 }

/-! ## Dampers (R123) -/

/-- A damp command (R123). -/
def dampCommand (b : Bell) (s : State) : State :=
  let p := s.bellProfile b
  if p.hasDamper && !s.halted then s.modChan b fun c => { c with dampEnd := some (s.now + p.dampTime * 1000) } else s

/-! ## A new working profile (R51, R122) -/

/-- The heat of a present bell is lowered to its new Hmax, and its thermal state judged again (R51, R122). -/
def adoptProfileBell (b : Bell) (s : State) : State :=
  judgeThermal b
    (if s.bellPresent b then s.modChan b fun c => { c with heat := min c.heat (s.bellProfile b).hmax } else s)

end Sys2Proof.Machine
end

