-- ==== Sys2Proof/Machine/Tempo.lean ====
section
/-! DEFINITION. The tempo synthesizer (R14 to R20) as functions of its record. -/

namespace Sys2Proof.Machine

/-- A tempo clamped into its legal range (R14). -/
def clampTempo (t : Nat) : Nat := max 2000 (min t 24000)

/-- Whether R14 had to clamp. -/
def tempoClamps (t : Nat) : Bool := clampTempo t != t

/-- A legal tempo comes into force: N and R are recomputed (R14). -/
def Synth.setTempo (t : Nat) (y : Synth) : Synth := { y with tempo := t, n := 62500000 / t, r := 62500000 % t }

/-- Entry to PLAYING (R16). -/
def Synth.start (tempo now : Nat) (y : Synth) : Synth :=
  let t := clampTempo tempo
  { y.setTempo t with running := true, boundary := some ⟨0, now⟩, divEnd := none, acc := 0, divTempo := t, ramp := none }

/-- The engine leaves PLAYING (R16). -/
def Synth.stop (y : Synth) : Synth := { y with running := false, divEnd := none }

/-- A TEMPO event (R17). -/
def Synth.tempoEvent (t : Nat) (y : Synth) : Synth := { y.setTempo (clampTempo t) with ramp := none }

/-- The tempo of ramp division k (R18): T0 + trunc((Tt − T0) × k / K). -/
def Ramp.tempoAt (r : Ramp) (k : Nat) : Nat :=
  ((r.t0 : Int) + (((r.target : Int) - r.t0) * k).tdiv r.len).toNat

/-- A RAMP event (R18): T0 is the tempo in force, a length of 0 is read as 1, and the division now beginning is k = 1. -/
def Synth.rampEvent (target len : Nat) (y : Synth) : Synth :=
  let r : Ramp := ⟨y.tempo, clampTempo target, max len 1, 1, true⟩
  { y.setTempo (r.tempoAt 1) with ramp := some r }

/-- The ramp's position advances once per division begun; after division K the ramp is over (R18). -/
def Synth.advanceRamp (y : Synth) : Synth :=
  match y.ramp with
  | none => y
  | some r =>
    if r.fresh then { y with ramp := some { r with fresh := false } }
    else if r.k < r.len then { y.setTempo (r.tempoAt (r.k + 1)) with ramp := some { r with k := r.k + 1 } }
    else { y with ramp := none }

/-- A division begins at the boundary's instant and is timed (R15): a tempo that differs from the division before sets A to 0, R is
added, and A reaching T makes the division one microsecond longer. -/
def Synth.beginDivision (y : Synth) : Synth :=
  let y := y.advanceRamp
  let acc := (if y.tempo = y.divTempo then y.acc else 0) + y.r
  let start := (y.boundary.map (·.instant)).getD 0
  if y.tempo ≤ acc then
    { y with acc := acc - y.tempo, divTempo := y.tempo, divEnd := some (start + y.n + 1) }
  else { y with acc := acc, divTempo := y.tempo, divEnd := some (start + y.n) }

/-- The next boundary, at the end of the division in progress (R16). -/
def Synth.nextBoundary (endAt : Nat) (y : Synth) : Synth :=
  { y with boundary := some ⟨(y.boundary.map (·.division + 1)).getD 0, endAt⟩, divEnd := none }

/-- A held boundary is released: the division will begin at the release instant (R19). DEDUCED (log entry 78): that instant is also the event
instant of the events left at the boundary, which R66 has carried out then. -/
def Synth.release (now : Nat) (y : Synth) : Synth :=
  { y with boundary := y.boundary.map fun b => { b with instant := now } }

def State.modSynth (s : State) (f : Synth → Synth) : State := s.modTb fun t => { t with synth := f t.synth }

end Sys2Proof.Machine
end

