-- ==== Sys2Proof/Machine/Perform.lean ====
section
/-! DEFINITION. The Performance Engine (chapter 4): prefetch, the taking of a request, preparation, the score and its events, the coda,
the ends of a performance, and the self-test. -/

namespace Sys2Proof.Machine

/-! ## The current performance -/

def modPerf (f : Performance → Performance) (s : State) : State := s.modPe fun e => { e with perf := e.perf.map f }

def modPerfCounters (f : PerfCounters → PerfCounters) : State → State :=
  modPerf fun p => { p with counters := f p.counters }

def countStall : State → State := modPerfCounters fun c => { c with stalls := satInc c.stalls }
def countNotPresent : State → State := modPerfCounters fun c => { c with notPresent := satInc c.notPresent }
def countCueSkipped : State → State := modPerfCounters fun c => { c with cuesSkipped := satInc c.cuesSkipped }
def countWaitTimeout : State → State := modPerfCounters fun c => { c with waitTimeout := satInc c.waitTimeout }

/-- TEMPO_CLAMPED is set where R14 had to clamp. -/
def markClamped (t : Nat) : State → State :=
  modPerf fun p => { p with flags := { p.flags with tempoClamped := p.flags.tempoClamped || tempoClamps t } }

/-- The result is set when first decided, and replaced only where it stands COMPLETED (R78). -/
def Performance.setResult (r : PerfResult) (p : Performance) : Performance :=
  match p.result with
  | none | some .completed => { p with result := some r }
  | some _ => p

def setHold (h : Hold) (s : State) : State := s.modPe fun e => { e with hold := h }

/-- The mode of the current performance is BELLS_ONLY. -/
def bellsOnly (s : State) : Bool := s.pe.perf.any (·.request.mode == .bellsOnly)

/-- The mode of the current performance plays no strikes (R67). -/
def strikesSkipped (s : State) : Bool :=
  s.pe.perf.any fun p => p.request.mode == .figuresOnly || p.request.mode == .silent

/-- The excluded set of the current performance. -/
def excludedSet (s : State) : AxisSet := (s.pe.perf.map (·.excluded)).getD 0

/-! ## Prefetch (R72, R73) -/

/-- Bytes of the prefetch reads that are pending, one in progress included. DESIGN CHOICE (log entry 59): a read in progress whose bytes are
to be discarded takes no space of the ring and does not count. -/
def pendingBytes (u : LibraryUnit) : Nat :=
  (u.prefetch.map (·.length)).sum +
    match u.port with
    | some ⟨.prefetch, .read _ n, false⟩ => n
    | _ => 0

/-- Free space of the prefetch ring (R72). -/
def ringFree (s : State) : Nat := 512 - 4 * s.pe.ring.length - pendingBytes s.lu

/-- Retention stands (R73). -/
def retaining (s : State) : Bool := s.pe.loop.any (·.retention == .on)

/-- The length of the read to be requested now, if any (R72). -/
def nextReadLength (s : State) : Option Nat :=
  if s.pe.scoreRemaining = 0 then none
  else if 64 ≤ ringFree s then some (min 64 s.pe.scoreRemaining)
  else if retaining s ∧ 4 ≤ ringFree s then some (min (ringFree s) s.pe.scoreRemaining)
  else none

/-- Reads are requested while there is room and score remains (R72); the ring holds at most eight reads of 64 bytes. -/
def requestReadsFor : Nat → State → State
  | 0, s => s
  | fuel + 1, s =>
    match nextReadLength s with
    | none => s
    | some n =>
      let a := s.pe.fetchAddress
      requestReadsFor fuel
        ((s.modLu fun u => { u with prefetch := u.prefetch ++ [⟨a, n⟩] }).modPe fun e =>
          { e with fetchAddress := a + n, scoreRemaining := e.scoreRemaining - n })

def requestReads (s : State) : State := grantPort (requestReadsFor 16 s)

/-- The events of a read's bytes, the first of them numbered `i` (11.5). -/
def ringEvents (i : Nat) : List Byte → List RingEvent
  | a :: b :: c :: d :: rest => ⟨i, a ++ b ++ c ++ d⟩ :: ringEvents (i + 1) rest
  | _ => []

/-! ## Demands and awaited axes (R63, R64) -/

/-- The members of an axis set that are present doors, or present figure axes. -/
def doorsOf (s : State) (x : AxisSet) : AxisSet := setOf (fun d => x.getLsbD d.val && s.isDoor d) allAxes
def figuresOf (s : State) (x : AxisSet) : AxisSet := setOf (fun a => x.getLsbD a.val && s.isFigure a) allAxes

/-- An axis is excluded by its own LOCKED_OUT or by its guard door's DOOR_FAULT (R64). -/
def excludes (s : State) (a : Axis) : Bool :=
  (s.axis a).state == .lockedOut ||
    match s.guardDoor a with
    | none => false
    | some d => (s.door d).state == .fault

/-- Awaited axes that are to be excluded now (R64). -/
def newlyExcluded (s : State) : AxisSet :=
  if s.pe.engine = .preparing then setOf (fun a => s.pe.awaited.getLsbD a.val && excludes s a) allAxes &&& ~~~excludedSet s
  else 0

def exclude (x : AxisSet) : State → State := modPerf fun p => { p with excluded := p.excluded ||| x }

/-- An axis is ready (R64). -/
def axisReady (s : State) (a : Axis) : Bool :=
  (s.axis a).referenced && (s.axis a).state != .faultOff && (s.axis a).state != .lockedOut

/-- The preparation is complete (R64). -/
def preparationComplete (s : State) : Bool :=
  allAxes.all fun a =>
    (!s.pe.demanded.getLsbD a.val || (s.door a).state == .open || (s.door a).state == .fault) &&
      (!s.pe.awaited.getLsbD a.val || axisReady s a || (excludedSet s).getLsbD a.val)

/-! ## The score (R66 to R74, 11.5, R203) -/

/-- A decoded score event. -/
inductive Event where
  | strike (bell velocity : Nat)
  | damp (bell : Nat)
  | tempo (index : Nat)
  | ramp (index : Nat)
  | cue (axis : Nat) (isList : Bool) (number : Nat)
  | waitAxis (axis : Nat) (seconds : Nat)
  | countBegin
  | countEnd
  | mark (n : Nat)
  | finish
  | unknown
  deriving DecidableEq, Repr

/-- The delta of an event (11.5). -/
def eventDelta (w : BitVec 32) : Nat := w.toNat / 65536

/-- The 12-bit argument field (11.5). -/
def eventArg (w : BitVec 32) : Nat := w.toNat / 4096 % 16 * 256 + w.toNat % 256

/-- An event's kind and arguments (11.5, R203). -/
def decodeEvent (w : BitVec 32) : Event :=
  let x := eventArg w
  match w.toNat / 256 % 16 with
  | 1 => .strike (x / 128) (x % 128)
  | 2 => .damp (x % 32)
  | 3 => .tempo (x % 256)
  | 4 => .ramp (x % 256)
  | 5 => if x.testBit 7 then .cue (x / 256 % 8) true (x % 32) else .cue (x / 256 % 8) false (x % 16)
  | 6 => .waitAxis (x / 256 % 8) (min (x % 64) 60)
  | 7 => .countBegin
  | 8 => .countEnd
  | 9 => .mark (x % 256)
  | 10 => .finish
  | _ => .unknown

/-- The event instant of the boundary standing (R16, R19). -/
def eventInstant (s : State) : Nat := (s.tb.synth.boundary.map (·.instant)).getD s.now

/-- The division of the boundary standing. -/
def boundaryDivision (s : State) : Nat := (s.tb.synth.boundary.map (·.division)).getD 0

/-- STRIKE (R67). -/
def strikeEvent (bell velocity : Nat) (s : State) : State :=
  if strikesSkipped s then s
  else
    match bellOf bell with
    | none => countNotPresent s
    | some b =>
      if s.bellPresent b then
        strikeArrives ⟨b, max velocity 1, eventInstant s + Config.strikeOffset - (s.bellProfile b).lead, .score,
          s.pe.perf.map (·.seq)⟩ s
      else countNotPresent s

/-- DAMP (R68). -/
def dampEvent (bell : Nat) (s : State) : State :=
  match bellOf bell with
  | none => countNotPresent s
  | some b => if s.bellPresent b then dampCommand b s else countNotPresent s

/-- The tempo table entry of an index (R203). -/
def tempoEntry (s : State) (i : Nat) : Option (Nat × Nat) := s.pe.perf.bind fun p => p.entry.tempos[i]?

/-- MARK (R68). -/
def markEvent (n : Nat) (s : State) : State := raise .mark (s.modPe fun e => { e with lastMark := some n })

/-- A CUE is skipped and counted (R68). -/
def cueBarred (s : State) (a : Axis) (isList : Bool) (number : Nat) : Bool :=
  !s.isFigure a || (excludedSet s).getLsbD a.val || (s.leader a).isSome || (isList && (s.poseList number).isNone)

/-- CUE (R68): the Motion Unit acts on it at once. -/
def cueEvent (axis : Nat) (isList : Bool) (number : Nat) (s : State) : State :=
  if bellsOnly s then s
  else
    match axisOf axis with
    | none => countCueSkipped s
    | some a =>
      if cueBarred s a isList number then countCueSkipped s
      else
        settleMotion
          (if isList then
            match s.poseList number with
            | some l => startList number l a s
            | none => s
          else give (poseTarget s a .cue number) a s)

/-- A WAIT_AXIS is satisfied (R69). -/
def waitSatisfied (s : State) (a : Axis) : Bool :=
  if bellsOnly s || (s.axisProfile a).isNone || (excludedSet s).getLsbD a.val then true
  else if s.isDoor a then (s.door a).state != .opening && (s.door a).state != .closing
  else
    let r := s.axis a
    (r.target.isNone && r.runner.isNone) || (r.state == .dwelling && r.runner.any (·.atLast))

/-- WAIT_AXIS (R69): a wait that is not satisfied holds the boundary, or, with a limit of 0, is counted. -/
def waitEvent (axis seconds : Nat) (s : State) : State :=
  match axisOf axis with
  | none => s
  | some a =>
    if waitSatisfied s a then s
    else if seconds = 0 then countWaitTimeout s
    else setHold (.wait a (eventInstant s + seconds * 1000000) false) s

/-- The engine leaves the score with a result: entry to CODA (R76). -/
def enterCoda (r : PerfResult) (s : State) : State :=
  let axes : AxisSet :=
    setOf (fun a => (s.pe.perf.any (·.entry.axes.getLsbD a.val)) && s.isFigure a && (s.leader a).isNone) allAxes
  let s1 := modPerf (·.setResult r) ((s.modSynth Synth.stop).modPe fun e =>
    { e with
      engine := .coda
      hold := .none
      supplyTimer := none
      thermalTimer := none
      codaAxes := axes
      codaStart := some s.now })
  let s2 := forEach (fun a s => if axes.getLsbD a.val then sendHomeAfterStep a s else s) allAxes s1
  demandDoors s2.pe.demanded DoorRecord.peClose s2

/-- An event is carried out: it leaves the ring unless it is retained, and the next one follows it (R66, R72, R73). -/
def passEvent (i : Nat) (s : State) : State :=
  let d := boundaryDivision s
  let keep := s.pe.loop.any fun l => l.retention == .on && decide (l.start ≤ i)
  s.modPe fun e =>
    { e with
      ring := if keep then e.ring else e.ring.filter (·.index != i)
      nextEvent := i + 1
      baseDivision := d }

/-- Retained events fill the ring before the COUNT_END is reached: retention is abandoned and their bytes are freed (R73). -/
def abandonRetention (s : State) : State :=
  match s.pe.loop with
  | none => s
  | some l =>
    if l.retention = .on ∧ 128 ≤ s.pe.nextEvent - l.start then
      s.modPe fun e =>
        { e with
          loop := some { l with retention := .abandoned }
          ring := e.ring.filter fun x => decide (e.nextEvent ≤ x.index) }
    else s

/-- COUNT_BEGIN with the loop record empty (R70, R73). -/
def countBegin (i : Nat) (s : State) : State :=
  let n := (s.pe.perf.map (·.request.count)).getD 1
  s.modPe fun e => { e with loop := some ⟨i + 1, n, if 2 ≤ n then .on else .off⟩ }

/-- The fetch restarts at the loop start (R73). -/
def refetch (start : Nat) (s : State) : State :=
  let entry := s.pe.perf.map (·.entry)
  let a := (entry.map (·.scoreAddress)).getD 0 + 4 * start
  let n := 4 * ((entry.map (·.scoreLength)).getD 0 - start)
  (withdrawPrefetch s).modPe fun e => { e with ring := [], fetchAddress := a, scoreRemaining := n }

/-- COUNT_END with the loop record holding `l` (R70, R73). -/
def countEnd (l : LoopRecord) (s : State) : State :=
  if l.remaining ≤ 1 then s.modPe fun e => { e with loop := none }
  else
    let left := l.remaining - 1
    let ret := if l.retention = .on ∧ left = 1 then Retention.off else l.retention
    let s := s.modPe fun e => { e with loop := some { l with remaining := left, retention := ret }, nextEvent := l.start }
    if l.retention = .abandoned then refetch l.start s else s

/-- One event is carried out (R67 to R71, R73): none where it is a SCORE_ERROR. -/
def carryOut (i : Nat) (ev : Event) (s : State) : Option State :=
  match ev with
  | .strike b v => some (abandonRetention (passEvent i (strikeEvent b v s)))
  | .damp b => some (abandonRetention (passEvent i (dampEvent b s)))
  | .tempo k =>
    match tempoEntry s k with
    | none => none
    | some (t, _) => some (abandonRetention (passEvent i (markClamped t (s.modSynth (·.tempoEvent t)))))
  | .ramp k =>
    match tempoEntry s k with
    | none => none
    | some (t, n) => some (abandonRetention (passEvent i (markClamped t (s.modSynth (·.rampEvent t n)))))
  | .cue a isList n => some (abandonRetention (passEvent i (cueEvent a isList n s)))
  | .waitAxis a n => some (abandonRetention (passEvent i (waitEvent a n s)))
  | .countBegin => if s.pe.loop.isSome then none else some (countBegin i (passEvent i s))
  | .countEnd =>
    match s.pe.loop with
    | none => none
    | some l => some (countEnd l (passEvent i s))
  | .mark n => some (abandonRetention (passEvent i (markEvent n s)))
  | .finish => if s.pe.loop.isSome then none else some (enterCoda .completed (passEvent i s))
  | .unknown => none

/-- A SCORE_ERROR: the erroneous event leaves the ring and is not carried out (R71, R72). -/
def scoreError (s : State) : State :=
  enterCoda .scoreError (s.modPe fun e => { e with ring := e.ring.filter (·.index != e.nextEvent) })

/-- The score length of the current performance in events. -/
def scoreLength (s : State) : Nat := (s.pe.perf.map (·.entry.scoreLength)).getD 0

/-- A boundary is not held. -/
def notHeld (s : State) : Bool :=
  match s.pe.hold with
  | .none => true
  | .wait _ _ _ | .stall _ => false

/-- The events of the boundary standing, in score order, until one falls at a later division, the boundary is held, or the score ends
(R66, R71, R74). DESIGN CHOICE (log entry 60): a WAIT_AXIS that is the score's last event holds its boundary first, and CODA comes after the
release. `fuel` bounds the events one boundary can carry out without a new read: a full ring of 128 events, played at most 12
times. -/
def runEventsFor : Nat → State → State
  | 0, s => s
  | fuel + 1, s =>
    if s.pe.engine = .playing ∧ notHeld s then
      if scoreLength s ≤ s.pe.nextEvent then
        (if s.pe.loop.isSome then scoreError s else enterCoda .completed s)
      else
        match s.pe.ring.find? (·.index == s.pe.nextEvent) with
        | none => countStall (setHold (.stall s.now) s)
        | some e =>
          if boundaryDivision s < s.pe.baseDivision + eventDelta e.word then s.modSynth Synth.beginDivision
          else
            match carryOut s.pe.nextEvent (decodeEvent e.word) s with
            | none => scoreError s
            | some s' => runEventsFor fuel (if s'.pe.engine = .playing then requestReads s' else s')
    else s

def runEvents (s : State) : State := runEventsFor 4096 s

/-- A hold ends: the boundary is released at this instant and its events go on (R19, R69, R74). -/
def releaseHold (s : State) : State := runEvents ((setHold .none s).modSynth (·.release s.now))

/-- A WAIT hold is satisfied (R69). -/
def waitOver (s : State) : Bool :=
  match s.pe.hold with
  | .wait a _ met => met || waitSatisfied s a
  | .none | .stall _ => false

/-- The event a stall waits for is in the ring (R74). -/
def stallOver (s : State) : Bool :=
  match s.pe.hold with
  | .stall _ => (s.pe.ring.find? (·.index == s.pe.nextEvent)).isSome
  | .none | .wait _ _ _ => false

/-! ## The start (R65) -/

/-- Awaited axes that are not ready (R65). -/
def unreadyAxes (s : State) : AxisSet := setOf (fun a => s.pe.awaited.getLsbD a.val && !axisReady s a) allAxes

/-- The performance starts DEGRADED (R65, step 2). -/
def degraded (s : State) : Bool :=
  excludedSet s != 0 ||
    (allAxes.any fun d => s.pe.demanded.getLsbD d.val && (s.door d).state != .open) ||
    (!strikesSkipped s && allBells.any fun b =>
      s.pe.perf.any (·.entry.bells.getLsbD b.val) && (!s.bellPresent b || (s.chan b).state == .lockedOut))

/-- PREPARING is left for PLAYING (R65). -/
def startPlaying (s : State) : State :=
  let s := exclude (unreadyAxes s) s
  let d := degraded s
  let tempo := (s.pe.perf.map (·.entry.startTempo)).getD 12000
  let s := modPerf (fun p =>
    { p with
      flags := { p.flags with degraded := d, lateStart := decide (p.dueCount < s.now) }
      startCount := some s.now
      startWall := some s.tb.reading }) s
  let s := raise .showStarted (s.modPe fun e => { e with engine := .playing })
  runEvents (markClamped tempo (s.modSynth (·.start tempo s.now)))

/-- The preparation is complete at or after the due count (R65). -/
def mayStart (s : State) : Bool :=
  s.pe.engine == .preparing && preparationComplete s && s.pe.perf.any fun p => decide (p.dueCount ≤ (s.now : Int))

/-! ## The take (R62, R63) -/

/-- A timer of R80 for a reason that stands. -/
def abortTimer (on : Bool) (now : Nat) : Option Nat := if on then some (now + 2000000) else none

/-- The performance built at a take (R62). -/
def newPerformance (r : ShowRequest) (e : DirEntry) (s : State) : Performance :=
  let due : Int := s.now + ((r.due : Int) - s.tb.reading)
  { request := r
    seq := s.pe.nextSeq
    entry := e
    dueCount := due
    prepLimit := max due s.now + 30000000
    flags := ⟨false, false, false, false⟩
    excluded := 0
    counters := ⟨0, 0, 0, 0, 0, 0, 0⟩
    startCount := none
    startWall := none
    endWall := none
    result := none }

/-- The engine takes a request that has left the queue, and enters PREPARING (R62, R63). -/
def takeRequest (r : ShowRequest) (e : DirEntry) (s : State) : State :=
  let figures := r.mode != .bellsOnly
  let demanded := if figures then doorsOf s e.doors else 0
  let s1 := s.modPe fun x =>
    { x with
      engine := .preparing
      perf := some (newPerformance r e s)
      nextSeq := (x.nextSeq + 1) % 65536
      ring := []
      fetchAddress := e.scoreAddress
      scoreRemaining := 4 * e.scoreLength
      loop := none
      hold := .none
      nextEvent := 0
      baseDivision := 0
      lastMark := none
      recoveryOwed := false
      supplyTimer := abortTimer s.sv.mute.supply s.now
      thermalTimer := abortTimer s.sv.mute.thermal s.now
      demanded := demanded
      awaited := if figures then figuresOf s e.axes else 0
      codaAxes := 0
      codaStart := none }
  demandDoors demanded DoorRecord.peOpen (requestReads s1)

/-! ## The queue's head (R33, R34) -/

/-- The head is later than the late limit allows (R34). -/
def headLate (r : ShowRequest) (s : State) : Bool := s.lateLimit.any fun l => decide (r.due + l < s.tb.reading)

/-- A LINK head with a given start is held until its preroll begins (R33). -/
def headHeld (r : ShowRequest) (e : DirEntry) (s : State) : Bool :=
  r.given && decide (s.tb.reading + e.preroll * 1000 < r.due)

/-- Heads are judged one after another (R33, R34). -/
def examineHeads : List ShowRequest → State → State
  | [], s => setQueue [] s
  | r :: rest, s =>
    if headLate r s then examineHeads rest (countLate s)
    else
      match s.entryOf r.id with
      | none => examineHeads rest (countMissing s)
      | some e =>
        if e.stale then examineHeads rest (countMissing s)
        else if headHeld r e s then setQueue (r :: rest) s
        else takeRequest r e (setQueue rest s)

/-- The engine examines the head of the show queue, where it may (R33). -/
def examineQueue (s : State) : State :=
  if s.engineIdle && s.presenting then examineHeads s.su.queue s else s

/-- An examination where the head has changed (R33). -/
def examineNewHead (before after : State) : State :=
  if after.su.queue.head? = before.su.queue.head? then after else examineQueue after

/-! ## Triggers (R27) -/

/-- The next trigger is handled where its posting instant is reached, and a new head of the queue is examined (R27, R33). -/
def nextTriggerHandled (s : State) : State :=
  match dueTrigger s with
  | none => s
  | some t => examineNewHead s (handleTrigger t s)

/-- `n` triggers, one after another. -/
def handleTriggers : Nat → State → State
  | 0, s => s
  | n + 1, s => handleTriggers n (nextTriggerHandled s)

/-- The next trigger is recomputed: one whose posting instant is found already reached is handled, and then the one after it (R27). It
follows every change of a table or of the directory. A change of the record alone leaves no trigger reached, since each such change puts
the record at the reading or at the last trigger reached, and one of the active season moves no trigger (R25). -/
def recomputeTrigger (s : State) : State := handleTriggers (triggersReached s) s

/-! ## The end (R76 to R84) -/

/-- No hammer pulse is in progress, no damper is energized, and nothing of the performance is outstanding in the Strike Unit (R77). -/
def strikesDone (s : State) (seq : Nat) : Bool :=
  (s.st.queue.all fun q => q.seq != some seq) &&
    s.st.channels.toList.all fun c =>
      c.state != .pulse && c.dampEnd.isNone &&
        (c.verification == .none || !(c.strike.any fun q => q.seq == some seq))

/-- An axis asked home is home, or cannot come (R77). -/
def axisDone (s : State) (a : Axis) : Bool :=
  let r := s.axis a
  !r.referenced || (r.position == 0 && r.target.isNone) || r.state == .faultOff || r.state == .lockedOut

/-- The coda is finished (R77). -/
def codaFinished (s : State) : Bool :=
  s.pe.engine == .coda && (s.pe.perf.any fun p => strikesDone s p.seq) &&
    allAxes.all fun a =>
      (!s.pe.codaAxes.getLsbD a.val || axisDone s a) &&
        (!s.pe.demanded.getLsbD a.val || (s.door a).state == .closed || (s.door a).state == .fault)

/-- The log record of a performance (R84). -/
def Performance.logRecord (finish : Nat) (p : Performance) : LogRecord :=
  { seq := p.seq
    id := p.request.id
    origin := p.request.origin
    count := p.request.count
    mode := p.request.mode
    due := p.request.due
    start := p.startWall
    finish := finish
    result := p.result
    flags := p.flags
    fired := p.counters.fired
    dropped := p.counters.dropped
    misses := p.counters.misses
    stalls := p.counters.stalls }

/-- The log holds the newest record first; a seventeenth replaces the oldest (R84). -/
def writeLog (s : State) : State :=
  match s.pe.perf with
  | none => s
  | some p => s.modPe fun e => { e with log := (p.logRecord s.tb.reading :: e.log).take 16 }

/-- The AUTO transfer at the end of a performance (R130). -/
def autoTransfer (s : State) : State :=
  if s.st.quality.mode = .auto then raise .counterReady (qualityTransfer s) else s

/-- The engine is IDLE, with nothing of a performance in progress (R83). -/
def PerformanceEngine.toIdle (e : PerformanceEngine) : PerformanceEngine :=
  { e with
    engine := .idle
    ring := []
    loop := none
    hold := .none
    supplyTimer := none
    thermalTimer := none
    demanded := 0
    awaited := 0
    codaAxes := 0
    codaStart := none }

/-- Entry to IDLE from PREPARING, PLAYING or CODA, in the order of R83. -/
def enterIdle (s : State) : State :=
  let s := modPerf (fun p => { p with endWall := some s.tb.reading }) s
  let s := raise .showEnded (writeLog s)
  let s := autoTransfer s
  let s := withdrawPrefetch ((s.modSynth Synth.stop).modPe PerformanceEngine.toIdle)
  examineQueue (applyPending s)

/-- Straight to IDLE without a coda (R80). -/
def abortToIdle (r : PerfResult) (owePark : Bool) (s : State) : State :=
  let s := modPerf (·.setResult r) s
  let s := demandDoors (BitVec.allOnes 8) DoorRecord.withdrawPe s
  enterIdle (s.modPe fun e => { e with recoveryOwed := e.recoveryOwed || owePark })

/-- A cause of R78 moves a performance in PREPARING or PLAYING into CODA. -/
def abortToCoda (r : PerfResult) (s : State) : State :=
  match s.pe.engine with
  | .preparing | .playing => enterCoda r s
  | .idle | .coda | .selfTest => s

/-! ## The self-test (R86 to R88) -/

def modSelfTest (f : SelfTest → SelfTest) (s : State) : State := s.modPe fun e => { e with selfTest := f e.selfTest }

/-- The present bells in ascending number. -/
def presentBells (s : State) : List Bell := allBells.filter s.bellPresent

/-- SELF_TEST is taken (R86). -/
def beginSelfTest (s : State) : State :=
  s.modPe fun e =>
    { e with
      engine := .selfTest
      selfTest :=
        { state := .running
          results := Vector.ofFn fun b : Fin 24 => if s.bellPresent b then .notRun else .absent
          start := s.now
          todo := presentBells s
          handed := 0
          outstanding := []
          stopping := none } }

/-- The next bell is handed over (R86). -/
def handOver (b : Bell) (rest : List Bell) (s : State) : State :=
  let due := s.pe.selfTest.start + 500000 * s.pe.selfTest.handed
  strikeArrives ⟨b, 64, due, .selfTest, none⟩
    (modSelfTest (fun t => { t with todo := rest, handed := t.handed + 1, outstanding := t.outstanding ++ [b] }) s)

/-- A self-test is stopped: no further bell is handed over (R88). DESIGN CHOICE (log entry 61): a later cause leaves the first as it is. -/
def stopSelfTest (cause : TestCause) (s : State) : State :=
  if s.pe.engine = .selfTest ∧ s.pe.selfTest.stopping = none then
    modSelfTest (fun t => { t with todo := [], stopping := some cause }) s
  else s

/-- Every bell to be struck has its result (R87, R88). -/
def selfTestOver (s : State) : Bool :=
  s.pe.engine == .selfTest && s.pe.selfTest.todo == [] && s.pe.selfTest.outstanding == []

/-- The results become DONE and the engine enters IDLE (R83, R87, R88). -/
def endSelfTest (s : State) : State :=
  let s := modSelfTest (fun t => { t with state := .done (t.stopping.getD .complete) }) s
  let s := raise .selfTestDone (s.modPe PerformanceEngine.toIdle)
  examineQueue (applyPending s)

/-! ## Steps of the wall clock (R9) -/

/-- A step is offered (R9): applied at once to an idle or self-testing engine, pending otherwise. -/
def offerStep (delta : Int) (source : StepSource) (s : State) : State :=
  match s.pe.engine with
  | .idle | .selfTest =>
    examineQueue (applyStep delta source (s.modTb fun t => { t with pendingStep := none }))
  | .preparing | .playing | .coda =>
    raise .timeStepPending (s.modTb fun t => { t with pendingStep := some ⟨delta, source⟩ })

end Sys2Proof.Machine
end

