-- ==== Sys2Proof/Machine/Supervise.lean ====
section
/-! DEFINITION. The Supervision Unit (chapter 9) and the service sequence (chapter 8): the mute reason set and what its changes do, the
supply and die monitors, the code detectors, the presentation state, LOCKED, the end of a walk, and the hatch. -/

namespace Sys2Proof.Machine

/-! ## The mute reason set (R172 to R175) -/

def MuteSet.has (m : MuteSet) : MuteReason → Bool
  | .operator => m.operator | .hush => m.hush | .supply => m.supply | .service => m.service | .thermal => m.thermal

def MuteSet.put (r : MuteReason) (v : Bool) (m : MuteSet) : MuteSet :=
  match r with
  | .operator => { m with operator := v }
  | .hush => { m with hush := v }
  | .supply => { m with supply := v }
  | .service => { m with service := v }
  | .thermal => { m with thermal := v }

def setReason (r : MuteReason) (v : Bool) (s : State) : State := s.modSv fun u => { u with mute := u.mute.put r v }

/-- The set goes from empty to holding one reason (R173). -/
def firstReason (s : State) : State := stopSelfTest .muted (flushStrikes s)

/-- The members of the halt subset (9.1). -/
def MuteReason.isHalt : MuteReason → Bool
  | .supply | .service | .thermal => true
  | .operator | .hush => false

/-- Every pulse in flight ends as HALT, where the halt cuts them (R93, R101, R174). -/
def haltPulses (cut : Bool) (s : State) : State := forEach (haltPulse cut) allBells s

/-- The halt subset goes from empty to holding one reason (R174): what becomes of dampers, axes and doors. The power enables follow the
set. -/
def haltTower (s : State) : State :=
  let s := forEach haltDamper allBells s
  let s := forEach (fun a s => s.modAxis a (·.halt)) allAxes s
  forEach haltDoor allAxes s

/-- What a reason's addition does to the engine (R80): SUPPLY starts its timer, THERMAL ends a performance. -/
def reasonToEngine (r : MuteReason) (s : State) : State :=
  match r with
  | .supply =>
    match s.pe.engine with
    | .preparing | .playing => s.modPe fun e => { e with supplyTimer := some (s.now + 2000000) }
    | .idle | .coda | .selfTest => s
  | .thermal => if s.performing then abortToIdle .abortedThermal true s else s
  | .operator | .hush | .service => s

/-- Whether a halt reason added to the set cuts the pulses in flight: as `first` says where it is the first, and beside another by a free
value (log entry 79), since R174 has nothing more follow there and R117 has it cut whatever pulse it finds. -/
def haltCuts (first : Bool) (s : State) : Bool := if s.halted then Config.laterHaltCutsPulses else first

/-- A reason is added to the set (R172 to R174), and `first` says whether the first halt reason cuts the pulses in flight; a reason that is
already a member changes nothing. -/
def addReasonWith (first : Bool) (r : MuteReason) (s : State) : State :=
  if s.sv.mute.has r then s
  else
    let s1 := setReason r true s
    let s2 := if s.muted then s1 else firstReason s1
    let s3 := if r.isHalt then haltPulses (haltCuts first s) s2 else s2
    let s4 := if s1.halted && !s.halted then haltTower s3 else s3
    reasonToEngine r s4

/-- A reason is added to the set; the first halt reason cuts every pulse in flight (R93, R101, R117, R174). -/
def addReason (r : MuteReason) (s : State) : State := addReasonWith true r s

/-- A reason is removed from the set (R172), and its timer stops (R80). What a halt's end releases follows at once (R175). -/
def removeReason (r : MuteReason) (s : State) : State :=
  let s1 := setReason r false s
  match r with
  | .supply => s1.modPe fun e => { e with supplyTimer := none }
  | .thermal => s1.modPe fun e => { e with thermalTimer := none }
  | .operator | .hush | .service => s1

/-- A reason is added or removed. -/
def putReason (r : MuteReason) (v : Bool) (s : State) : State := if v then addReason r s else removeReason r s

/-! ## The supply monitor (R176, R177) -/

/-- A sample in units of 10 mV from VHSENSE in microvolts, behind the 20 : 1 divider (R176). -/
def sampleOf (microvolts : Nat) : Nat := min (microvolts * 20 / 10000) 5000

/-- The row of R177 that matches, if any. -/
def supplyRow (vwarn vuv vm : Nat) : SupplyState → Option SupplyState
  | .normal => if vm < vuv then some .lockout else if vm < vwarn then some .low else none
  | .low => if vm < vuv then some .lockout else if vwarn + 20 ≤ vm then some .normal else none
  | .lockout => if vuv + 50 ≤ vm then some .low else none

/-- The table applied until no row matches. With the thresholds R50 allows, two applications are enough; `fuel` bounds them. -/
def repeatTable {α : Type} (row : α → Option α) : Nat → α → α
  | 0, x => x
  | fuel + 1, x =>
    match row x with
    | none => x
    | some y => repeatTable row fuel y

/-- The monitor's state and the two levels that follow it (R177). -/
def showSupply (st : SupplyState) (s : State) : State :=
  setLevel .supplyLockout (st == .lockout) (setLevel .supplyLow (st == .low) (s.modSv fun u => { u with supply := st }))

/-- The monitor stands in a state at the end of a judgment (R177): SUPPLY follows it. -/
def setSupply (st : SupplyState) (s : State) : State := putReason .supply (st == .lockout) (showSupply st s)

/-- A walk that ends NONE puts the monitor in LOCKOUT and adds SUPPLY (R177), with every effect of a halt (R173, R174). Whether this halt
cuts the pulses in flight is a free value (log entry 52): R101, R117 and R174 say that it does, R110 that the walk leaves them to end by
R100. -/
def lockOutSupply (s : State) : State := addReasonWith Config.walkEndCutsPulses .supply (showSupply .lockout s)

/-- A new Vm is judged while there is a working profile (R177). -/
def judgeSupply (vm : Nat) (s : State) : State :=
  match s.lu.profile with
  | none => s
  | some p => setSupply (repeatTable (supplyRow p.vwarn p.vuv vm) 4 s.sv.supply) s

/-- A sample is taken (R176). -/
def takeSample (x : Nat) (s : State) : State :=
  let l := (s.sv.samples ++ [x]).drop (s.sv.samples.length - 7)
  let vm := if l.length = 8 then some (l.sum / 8) else none
  let s := s.modSv fun u => { u with samples := l, vm := vm }
  match vm with
  | none => s
  | some v => judgeSupply v s

/-! ## The die monitor (R178) -/

/-- The row of R178 that matches, if any. -/
def dieRow (t : Int) : DieState → Option DieState
  | .normal => if 160 ≤ t then some .shutdown else if 130 ≤ t then some .warn else none
  | .warn => if 160 ≤ t then some .shutdown else if t < 115 then some .normal else none
  | .shutdown => if t < 145 then some .warn else none

/-- A reading of the die sensor, a whole number from −40 to +200 (R178). -/
def clampDie (t : Int) : Int := max (-40) (min t 200)

def setDie (st : DieState) (s : State) : State :=
  let s := s.modSv fun u => { u with die := st }
  putReason .thermal (st == .shutdown)
    (setLevel .dieShutdown (st == .shutdown) (setLevel .dieWarn (st != .normal) s))

/-- A die reading is judged (R178). -/
def takeDieReading (t : Int) (s : State) : State :=
  let st := repeatTable (dieRow t) 4 s.sv.die
  setDie st (s.modSv fun u => { u with dieReading := some t })

/-! ## The code detectors (R179 to R182) -/

/-- A code's bits in the order received (R201): the low `len` bits, the most significant first. -/
def codeBits (code : Byte) (len : Nat) : List Bool := (List.range len).map fun i => code.getLsbD (len - 1 - i)

/-- `x` is a rotation of `code` (9.4). -/
def isRotation (x code : List Bool) : Bool := (List.range code.length).any fun i => x == code.drop i ++ code.take i

/-- One bit is taken (R179, R180). DEDUCED (log entry 74): the L-th bit after a restart may be a hit, the bits before it may not. -/
def Detector.takeBit (bit : Bool) (d : Detector) : Detector :=
  let bits := (bit :: d.bits).take (d.len + 1)
  let got := min (d.received + 1) 9
  let hit := decide (d.len ≤ got) && isRotation (bits.take d.len).reverse (codeBits d.code d.len)
  let differs := decide (d.len < got) && (match bits[d.len]? with | some b => b != bit | none => false)
  { d with
    bits := bits
    received := got
    position := (d.position + 1) % 50
    hit := d.hit || hit
    disagreements := d.disagreements + differs.toNat
    blockOver := decide (d.position = 49) }

/-- A block's verdict (R180). -/
def Detector.passes (d : Detector) : Bool := d.hit && decide (d.disagreements ≤ 1)

/-- The block ends and is judged with the dwell D (R181); the next block begins. -/
def Detector.endBlock (dwell : Nat) (d : Detector) : Detector :=
  let d' : Detector := { d with hit := false, disagreements := 0, blockOver := false }
  match d.present, d.passes with
  | false, true =>
    if dwell ≤ d.passing + 1 then { d' with present := true, passing := 0, failing := 0 }
    else { d' with passing := d.passing + 1 }
  | false, false => { d' with passing := 0 }
  | true, true => { d' with failing := 0 }
  | true, false =>
    if 2 ≤ d.failing + 1 then { d' with present := false, passing := 0, failing := 0 }
    else { d' with failing := d.failing + 1 }

/-- The dwell by the mode (R181). -/
def CodeMode.dwell : CodeMode → Nat
  | .manual => 2
  | .auto => 40

/-- HUSH_CODE and RELEASE_CODE follow the present flags (R181). -/
def reportCodes (s : State) : State :=
  setLevel .releaseCode s.sv.releaseCode.present (setLevel .hushCode s.sv.hushCode.present s)

/-- Both blocks end; in AUTO mode a detector becoming present acts on HUSH (R181, R182). -/
def endBlocks (s : State) : State :=
  let h := s.sv.hushCode.endBlock s.sv.codeMode.dwell
  let r := s.sv.releaseCode.endBlock s.sv.codeMode.dwell
  let hushCame := h.present && !s.sv.hushCode.present
  let releaseCame := r.present && !s.sv.releaseCode.present
  let s1 := reportCodes (s.modSv fun u => { u with hushCode := h, releaseCode := r })
  match s.sv.codeMode with
  | .manual => s1
  | .auto => if releaseCame then removeReason .hush s1 else if hushCame then addReason .hush s1 else s1

/-! ## The presentation state (R33, R35, R184) -/

def setPresentation (p : Presentation) (s : State) : State := s.modSv fun u => { u with presentation := p }

/-- The presentation state enters RUN or QUIET: the head of the queue is examined (R33); or another state: the queue is flushed
(R35). -/
def enterPresentation (p : Presentation) (s : State) : State :=
  match p with
  | .run | .quiet => examineQueue (setPresentation p s)
  | .locked | .still | .servicePending | .serviceReady | .service => flushQueue (setPresentation p s)

def owePark (v : Bool) (s : State) : State := s.modSv fun u => { u with parkOwed := v }

/-- RUN, or QUIET with OPERATOR in the set (R170, R184). -/
def playState (s : State) : Presentation := if s.sv.mute.operator then .quiet else .run

/-- The part becomes LOCKED (R52, R153, R163, R184). The axes lose what they do, and the open demand sets the axes that no longer wait,
before the doors are read, so that no DOOR demand of theirs outlasts the read (log entry 54). -/
def becomeLocked (s : State) : State :=
  let s := forEach (fun a s => s.modAxis a (·.lock)) allAxes s
  let s := forEach readDoor allAxes (forEach syncMembers allAxes s)
  let s := owePark false s
  match s.sv.presentation with
  | .run | .quiet | .still => enterPresentation .locked s
  | .locked | .servicePending | .serviceReady | .service => s

/-! ## The end of a walk (R51) -/

/-- The directory state a walk ends in (R51, step 1). -/
def walkOutcome (reason : WalkReason) (install : Option (Option Profile)) (badCrc : Nat) : DirState :=
  match reason, install with
  | .headerBad, _ => .absent
  | _, none => .absent
  | _, some none => .absent
  | .chainEnd, some (some _) => if badCrc = 0 then .valid else .part
  | _, some (some _) => .part

/-- The end reason of the walk report (R51, step 2). -/
def walkEndReason (reason : WalkReason) (install : Option (Option Profile)) : WalkReason :=
  match reason, install with
  | .headerBad, _ => .headerBad
  | _, none => .installMissing
  | _, some none => .installInvalid
  | r, some (some _) => r

/-- An axis that the profile now working holds no figure for is UNREFERENCED with no home request (R134, R153). -/
def dropAbsent (s : State) : State :=
  forEach (fun a s => if s.isFigure a then s else s.modAxis a (·.unreference)) allAxes s

/-- Every bell's heat and thermal state under the profile now working (R51, R122). -/
def adoptBells (s : State) : State := reportWarm (forEach adoptProfileBell allBells s)

/-- Steps 5 of R51: the part is made ready. -/
def makeReady (s : State) : State :=
  let s := raise .directoryReady s
  let s := forFigures requestHome s
  let s := demandDoors (BitVec.allOnes 8) DoorRecord.park s
  let s := if s.sv.presentation = .locked then enterPresentation (playState s) s else s
  examineStrikes s

/-- A walk ends (R51). The triggers whose posting instants by the loaded tables are reached are handled before the part is ready, so they
are SUPPRESSED (R27, R39, R40). NONE drops the strike queue as CHANNEL_FAULT (R110; log entry 39), puts the supply monitor in LOCKOUT
and adds SUPPLY (`lockOutSupply`). -/
def endWalk (reason : WalkReason) (s : State) : State :=
  match s.lu.walk with
  | none => s
  | some w =>
    let st := walkOutcome reason w.install s.lu.report.badCrc
    let s := s.modLu fun u =>
      { u with
        dirState := st
        walk := none
        profile := if st = .absent then none else w.install.join
        directory := if st = .absent then [] else u.directory
        poseLists := if st = .absent then Vector.replicate 32 none else u.poseLists
        report := { u.report with
          endReason := some (walkEndReason reason w.install)
          chainReason := if reason = .headerBad then none else some reason } }
    let s := adoptBells (dropAbsent s)
    let s := if st = .absent then lockOutSupply (dropStrikes .channelFault s) else s
    let s := recomputeTrigger (loadTables w s)
    let s := if st = .absent then s else makeReady s
    match s.lu.storeOp with
    | some o => if o.kind = .rescan then holdResult o .ok [] s else s
    | none => s

/-! ## The end of a store operation (R58, R59) -/

/-- The directory drops to NONE (R59). DESIGN CHOICE (log entry 35): a performance that began while the write or the erase was in flight goes
on; R52 knows the case only with the engine IDLE. -/
def dropDirectory (s : State) : State :=
  becomeLocked (s.modLu fun u =>
    { u with dirState := .absent, directory := [], report := { u.report with dropped := true } })

/-- A store operation ends (R58). A write or an erase marks what it changed, the result is held, and the next trigger is recomputed (R59,
R27): by then no operation is in flight, so a show taken meanwhile finds none waiting for the port (R42). -/
def endStoreOp (o : StoreOp) (outcome : StoreOutcome) (data : List Byte) (s : State) : State :=
  match o.changed with
  | none => holdResult o outcome data s
  | some (a, n) => recomputeTrigger (holdResult o outcome data (if reachesInstall a n s then dropDirectory s else markStale a n s))

def setStorePhase (ph : StorePhase) (s : State) : State :=
  s.modLu fun u => { u with storeOp := u.storeOp.map fun o => { o with phase := ph } }

/-- The store operation takes the end of the transfer it asked for (R55 to R57). -/
def storeStep (o : StoreOp) (data : List Byte) (s : State) : State :=
  match o.phase with
  | .poll first =>
    if busyBit data then setStorePhase (.poll (first.or (some s.now))) s
    else setStorePhase (if o.kind = .read then .reading else .writeEnable) s
  | .reading => endStoreOp o .ok data s
  | .writeEnable => setStorePhase .change s
  | .change => setStorePhase (.after s.now false) s
  | .after since _ => if busyBit data then setStorePhase (.after since true) s else endStoreOp o .ok [] s
  | .walking => s

/-! ## Service (R167 to R170) -/

def setLamp (l : Lamp) (s : State) : State := s.modSv fun u => { u with lamp := l }

/-- Entry to SERVICE_PENDING (R167). -/
def enterServicePending (s : State) : State :=
  let s := enterPresentation .servicePending s
  let s := stopSelfTest .stopped (abortToCoda .abortedService s)
  raise .serviceState (setLamp (.blink true (s.now + 500000)) (owePark true s))

/-- The presentation state after service (R170). -/
def stateAfterService (s : State) : Presentation := if s.partLocked then .locked else playState s

/-- Service is left from SERVICE (R170). -/
def leaveService (s : State) : State :=
  let s := removeReason .service s
  let s := forFigures (fun a s => s.modAxis a (·.leaveService)) s
  let s := forEach (fun d s => if s.isDoor d then (readDoor d s).modDoor d (·.park) else s) allAxes s
  enterPresentation (stateAfterService s) (raise .serviceState (setLamp .off s))

/-- Service is cancelled from SERVICE_PENDING or SERVICE_READY (R170). -/
def cancelService (s : State) : State :=
  enterPresentation (stateAfterService s) (raise .serviceState (setLamp .off (owePark false s)))

/-- A press acts by the presentation state (R167). -/
def press (s : State) : State :=
  match s.sv.presentation with
  | .run | .quiet | .still => enterServicePending s
  | .servicePending | .serviceReady => cancelService s
  | .service => if s.sv.hatchOpen then s else leaveService s
  | .locked => s

/-- SERVICE is entered by the hatch from SERVICE_READY (R169). -/
def enterService (s : State) : State :=
  raise .serviceState (setLamp .steady (addReason .service (enterPresentation .service s)))

/-- An early hatch (R169). -/
def earlyHatch (s : State) : State :=
  let s := owePark false (enterPresentation .service s)
  let s := addReason .service s
  let s := if s.performing then abortToIdle .abortedService false s else s
  let s := s.modPe fun e => { e with recoveryOwed := false }
  let s := forFigures (fun a s => s.modAxis a (·.earlyHatch)) s
  raise .serviceState (setLamp .steady s)

/-- The hatch opens (R169). -/
def openHatch (s : State) : State :=
  let s := s.modSv fun u => { u with hatchOpen := true }
  match s.sv.presentation with
  | .serviceReady => enterService s
  | .service => s
  | .locked | .run | .quiet | .still | .servicePending => earlyHatch s

/-- The tower is at rest (R168). -/
def atRest (s : State) : Bool :=
  s.engineIdle && allAxes.all fun a =>
    (!s.isFigure a || ((s.axis a).state == .idle && homeActive s a)) && (!s.isDoor a || (s.door a).state == .closed)

/-- The move to SERVICE_READY (R168). -/
def enterServiceReady (s : State) : State :=
  raise .serviceState (setLamp .steady (enterPresentation .serviceReady s))

/-! ## What follows at once -/

/-- The transitions that rules make at the first instant their conditions hold. -/
inductive Immediate where
  | motion | exclusion | start | release | coda | selfTest | recoveryPark | presentationPark | serviceReady
  deriving DecidableEq, Repr

/-- In the order in which they are taken where several fall together (log entry 9). -/
def allImmediate : List Immediate :=
  [.exclusion, .motion, .start, .release, .coda, .selfTest, .recoveryPark, .presentationPark, .serviceReady]

/-- Its conditions hold: R139, R158, R159 and R162 for the Motion Unit, R64, R65, R69 and R74, R77, R87, R82, R166, R168. -/
def Immediate.due (s : State) : Immediate → Bool
  | .motion => motionBusy s
  | .exclusion => newlyExcluded s != 0
  | .start => mayStart s
  | .release => waitOver s || stallOver s
  | .coda => codaFinished s
  | .selfTest => selfTestOver s
  | .recoveryPark => s.pe.recoveryOwed && !s.halted
  | .presentationPark => s.sv.parkOwed && s.engineIdle && !s.halted
  | .serviceReady => s.sv.presentation == .servicePending && atRest s

/-- It is carried out. -/
def Immediate.act (s : State) : Immediate → State
  | .motion => motionPass s
  | .exclusion => exclude (newlyExcluded s) s
  | .start => startPlaying s
  | .release => releaseHold s
  | .coda => enterIdle s
  | .selfTest => endSelfTest s
  | .recoveryPark => park (s.modPe fun e => { e with recoveryOwed := false })
  | .presentationPark => park (owePark false s)
  | .serviceReady => enterServiceReady s

/-- All that follows at this instant, one transition after another; `fuel` bounds them. -/
def settleFor : Nat → State → State
  | 0, s => s
  | fuel + 1, s =>
    match allImmediate.find? (Immediate.due s) with
    | none => s
    | some i => settleFor fuel (i.act s)

def settle (s : State) : State := settleFor 128 s

/-- What acts on the tower ends so: what follows at this instant, and then the transmitter arbiter (R194). -/
def conclude (s : State) : State := arbitrate (settle s)

end Sys2Proof.Machine
end

