-- ==== Sys2Proof/Machine/LinkEffects.lean ====
section
/-! DEFINITION. The effects behind the resets and the Link Port's own commands (chapter 10): both resets, the frames received, the end of a
transmission, and the answers of IDENT, GET_STATUS, SET_NOTICE_MASK and SOFT_RESET. -/

namespace Sys2Proof.Machine

/-! ## Resets (R13, R40, R61, R89, R111, R133, R156, R171, R187, R200) -/

/-- A door record before it is read at a reset: no last fault (R171). -/
def DoorRecord.blank : DoorRecord := ⟨.closed, 0, false, false, none, 0, none, none, false, none, none, none⟩

/-- Every door read from its switches at a reset (R157, R171). -/
def resetDoors (pins : Pins) (now : Nat) : Vector DoorRecord 8 :=
  Vector.ofFn fun d : Fin 8 => DoorRecord.blank.read (pins.far.getLsbD d.val) (pins.home.getLsbD d.val) now

/-- The Motion Unit after either reset (R156, R171). -/
def resetMotion (pins : Pins) (now : Nat) : MotionUnit := ⟨Vector.replicate 8 AxisRecord.reset, resetDoors pins now⟩

/-- Power-on reset with the bit rate straps as sampled (R188). The pins keep their levels, and the commands that wait still wait. -/
def powerOn (baud1 baud0 : Bool) (s : State) : State :=
  { tb := TimeBase.reset
    su := ScheduleUnit.reset 0
    lu := LibraryUnit.reset none
    pe := PerformanceEngine.reset
    st := StrikeUnit.reset
    mu := resetMotion s.pins 0
    sv := SupervisionUnit.reset 0 s.pins.hatchOpen s.pins.serviceReq
    lp := LinkPort.reset baud1 baud0 powerOnLevels
    pins := s.pins
    pending := s.pending }

/-- The Time Base over a soft reset (R13): a pending step is applied, the synthesizer is reset (R20). -/
def TimeBase.softReset (t : TimeBase) : TimeBase :=
  let t1 := match t.pendingStep with | some p => t.stepBy p.delta p.source | none => t
  { t1 with pendingStep := none, synth := Synth.reset }

/-- A channel over a soft reset: heat and thermal state are kept (R111, R133). -/
def Channel.softReset (c : Channel) : Channel := { Channel.reset with heat := c.heat, warm := c.warm }

/-- The Strike Unit over a soft reset (R111, R133). -/
def StrikeUnit.softReset (u : StrikeUnit) : StrikeUnit :=
  { StrikeUnit.reset with channels := u.channels.map Channel.softReset }

/-- The starting levels of a soft reset (R195): PPS_LOST and BELL_WARM as they stand, SUPPLY_LOCKOUT true. -/
def softResetLevels (s : State) : LevelSet :=
  putBit (putBit (putBit 0 Level.supplyLockout.num true) Level.ppsLost.num (s.tb.discipline == .freeRun))
    Level.bellWarm.num (s.st.channels.toList.any (·.warm))

/-- The soft reset instant (R200). A pending step applied by it latches TIME_STEPPED into the emptied set (R13). -/
def softReset (s : State) : State :=
  let tb := s.tb.softReset
  let s1 : State :=
    { tb := tb
      su := ScheduleUnit.reset tb.reading
      lu := LibraryUnit.reset s.lu.profile
      pe := PerformanceEngine.reset
      st := s.st.softReset
      mu := resetMotion s.pins s.now
      sv := SupervisionUnit.reset s.now s.pins.hatchOpen s.pins.serviceReq
      lp := LinkPort.reset s.lp.baud1 s.lp.baud0 (softResetLevels s)
      pins := s.pins
      pending := s.pending }
  if s.tb.pendingStep.isSome then raise .timeStepped s1 else s1

/-- The transmitter is sending the OK reply to a SOFT_RESET (R200). -/
def sendingSoftResetReply (s : State) : Bool :=
  match s.lp.tx with
  | .reply r => r.kind == 0xA3 && r.status == .ok
  | .idle | .notice _ => false

/-- SOFT_RESET (R200): OK; the reset waits for the end of this reply. -/
def softResetRequest (_ : List Byte) (s : State) : Answer := ⟨.ok, [], s⟩

/-! ## Frames (R189 to R191) -/

/-- FRAME_RECEIVED: a complete good frame gives a request, and the buffer hunts again. -/
def frameReceived (s : State) : State :=
  match s.lp.rx with
  | .hunting => s
  | .inFrame bytes _ => if rxComplete bytes && !rxBad bytes then receive (rxRequest bytes) (rxHunt s) else s

/-- BAD_FRAME: a framing error, or a case of R189 the bytes stored meet, discards the frame; a framing error while hunting is passed
over. -/
def badFrame (framing : Bool) (s : State) : State :=
  match s.lp.rx with
  | .hunting => s
  | .inFrame bytes _ => if framing || rxBad bytes then linkError (rxHunt s) else s

/-- FRAME_GAP_TIMEOUT: the frame is discarded at the 20,001st microsecond after its last byte. -/
def frameGap (s : State) : State :=
  match s.lp.rx with
  | .hunting => s
  | .inFrame _ last => if last + 20001 ≤ s.now then linkError (rxHunt s) else s

/-- BYTE_RECEIVED. -/
def byteReceived (b : Byte) (s : State) : State :=
  match s.lp.rx with
  | .hunting => if b = 0xA5 then s.modLp fun l => { l with rx := .inFrame [b] s.now } else s
  | .inFrame bytes _ => s.modLp fun l => { l with rx := .inFrame (bytes ++ [b]) s.now }

/-- TRANSMIT_END (R194, R197): the last byte of the frame being sent has gone. After a SOFT_RESET reply this is the reset instant
(R200). -/
def transmitEnd (s : State) : State :=
  if sendingSoftResetReply s then softReset s else s.modLp fun l => { l with tx := .idle, transit := 0 }

/-! ## IDENT and GET_STATUS (R198, R199) -/

/-- IDENT. DESIGN CHOICE (log entry 20): the two codes and the format version have two bytes each, and the silicon revision one. -/
def identReply (_ : List Byte) (s : State) : Answer :=
  ⟨.ok, [n16 Config.vendorCode, n16 Config.partCode, n8 Config.siliconRevision, n16 Config.formatVersion], s⟩

/-- A show request's six fields (R31). -/
def ShowRequest.fields (r : ShowRequest) : List Field :=
  [n8 r.id, n8 r.origin.num, n8 r.count, n8 r.mode.num, .wall (some r.due), .wall (some r.posting)]

/-- The same fields absent. -/
def noRequestFields : List Field := [.u8 none, .u8 none, .u8 none, .u8 none, .wall none, .wall none]

/-- A code detector's fields (R181). DESIGN CHOICE (log entry 70): the code stands in its byte as in a SET_CODES request, with the bits above
its length zero. -/
def Detector.fields (d : Detector) : List Field :=
  [n8 d.code.toNat, n8 d.len, flag d.present, n8 d.passing, n8 d.failing]

/-- Supervision Unit's part of GET_STATUS. -/
def supervisionStatus (s : State) : List Field :=
  let u := s.sv
  [n8 u.presentation.num, n8 (if u.hatchOpen then 0 else 1), n8 u.mute.num, flag u.mute.muted, flag u.mute.halted,
    n8 u.supply.num, .u16 u.vm, n8 u.die.num, .s16 u.dieReading] ++
    u.hushCode.fields ++ u.releaseCode.fields ++ [n8 u.codeMode.num]

/-- Hold state of the engine (R75): NONE, WAIT with its axis, or STALL. -/
def Hold.fields : Hold → List Field
  | .none => [n8 0, .u8 Option.none]
  | .wait a _ _ => [n8 1, n8 a.val]
  | .stall _ => [n8 2, .u8 Option.none]

/-- Performance Engine's part of GET_STATUS: the fields of R75, and the recovery park. DESIGN CHOICE (log entry 58): the division number is
that of the synthesizer's last boundary, which in PREPARING is one of the performance before. -/
def performanceStatus (s : State) : List Field :=
  let e := s.pe
  let p := e.perf
  let c (f : PerfCounters → Nat) : Field := .u16 (p.map fun p => f p.counters)
  let g (f : PerfFlags → Bool) : Field := .u8 (p.map fun p => (f p.flags).toNat)
  [n8 e.engine.num] ++ ((p.map fun p => p.request.fields).getD noRequestFields) ++
    [.u16 (p.map (·.seq)), .u8 (p.map (·.excluded.toNat)), g (·.degraded), g (·.lateStart), g (·.tempoClamped),
      g (·.mutedPart), c (·.fired), c (·.dropped), c (·.misses), c (·.stalls), c (·.notPresent), c (·.cuesSkipped),
      c (·.waitTimeout), .u16 e.lastMark, .u8 ((p.bind (·.result)).map (·.num)),
      .u64 (s.tb.synth.boundary.map (·.division)), n16 s.tb.synth.tempo] ++
    e.hold.fields ++ [flag e.recoveryOwed]

/-- The set of bells whose channels satisfy `p`. -/
def bellsWhere (s : State) (p : Channel → Bool) : BellSet := setOf (fun b => p (s.chan b)) allBells

/-- A channel stands in FAULT_OFF, RETRY_READY or LOCKED_OUT (R119). -/
def ChannelState.faulted : ChannelState → Bool
  | .faultOff | .retryReady | .lockedOut => true
  | .ready | .pulse | .recovery => false

/-- Strike Unit's part of GET_STATUS (R98, R109, R119, R128). -/
def strikeStatus (s : State) : List Field :=
  let u := s.st
  let h := u.queue.head?
  [n8 u.queue.length, .u8 (h.map (·.bell.val)), .u8 (h.map (·.origin.num)), .u16 (h.bind (·.seq)), .u64 (h.map (·.due)),
    n16 u.counters.fired, n16 u.counters.overflow, n16 u.counters.muted, n16 u.counters.channelFault, n16 u.counters.late,
    n16 u.counters.thermal, n16 u.sum, n8 (u.channels.toList.countP (·.state == .pulse)),
    n8 u.quality.source.num, n8 u.quality.mode.num, n16 u.quality.count, n16 u.quality.held,
    n24 (bellsWhere s (·.state.faulted)).toNat, n24 (bellsWhere s (·.warm)).toNat]

/-- An axis whose referenced flag GET_STATUS reports: every axis but a present door (R134, R155, R156; log entry 50). -/
def State.mayBeReferenced (s : State) (a : Axis) : Bool := !s.isDoor a

/-- Motion Unit's part of GET_STATUS (R155, R171). -/
def motionStatus (s : State) : List Field :=
  let faulted : AxisSet := setOf (fun a => s.isFigure a &&
    ((s.axis a).state == .faultOff || (s.axis a).state == .lockedOut)) allAxes
  let unreferenced : AxisSet := setOf (fun a => s.mayBeReferenced a && !(s.axis a).referenced) allAxes
  let doors : AxisSet := setOf (fun d => s.isDoor d && (s.door d).state == .fault) allAxes
  [n8 faulted.toNat, n8 unreferenced.toNat, n8 doors.toNat]

/-- Link Port's part of GET_STATUS. -/
def linkStatus (s : State) : List Field :=
  [n16 s.lp.errors, n24 s.lp.mask.toNat, n8 s.lp.both.toNat, n24 s.lp.latch.toNat, n8 s.lp.levels.toNat]

/-- GET_STATUS (R199). DESIGN CHOICE (log entry 68): of the store operation in flight it gives the kind alone. -/
def statusReply (_ : List Byte) (s : State) : Answer :=
  ⟨.ok, supervisionStatus s ++ [.u8 s.su.activeSeason, n8 s.su.activeProgramme] ++
    [n8 s.lu.dirState.num, .u8 (s.lu.storeOp.map (·.kind.num))] ++ performanceStatus s ++ strikeStatus s ++
    motionStatus s ++ linkStatus s, s⟩

/-! ## SET_NOTICE_MASK (R196) -/

/-- The mask and the edge selections are replaced, and newly masked kinds leave the latch set. -/
def LinkPort.setMask (mask : KindSet) (both : LevelSet) (l : LinkPort) : LinkPort :=
  { l with mask := mask, both := both, latch := l.latch &&& ~~~mask }

def noticeMask (p : List Byte) (s : State) : Answer :=
  let mask : KindSet := BitVec.ofNat 24 (numAt p 0 3)
  let both : LevelSet := BitVec.ofNat 8 (byteAt p 3)
  ⟨.ok, [n24 mask.toNat, n8 both.toNat], s.modLp (·.setMask mask both)⟩

end Sys2Proof.Machine
end

