-- ==== Sys2Proof/Machine/MotionEffects.lean ====
section
/-! DEFINITION. The effects behind the Motion Unit's commands (chapters 7 and 8): the answers about moves, homing and faults, counts,
switches, comparators, and the timers of axes and doors. -/

namespace Sys2Proof.Machine

/-! ## MOVE_AXIS and HOME_AXIS (R144, R145) -/

/-- The axis's state refuses a host move (R144, last row). -/
def AxisState.refusesMove : AxisState → Bool
  | .unreferenced | .homing | .faultOff | .lockedOut => true
  | .idle | .moving | .dwelling | .waitDoor => false

/-- A MOVE_AXIS on a present door whose pose is 0 or 1: the LINK demand (R158). -/
def moveDoor (pose : Nat) (d : Axis) (s : State) : Answer :=
  let set : AxisSet := putBit 0 d.val true
  let s1 := demandDoors set (if pose = 1 then DoorRecord.linkOpen else DoorRecord.linkClose) s
  ⟨.ok, [n8 (s1.door d).state.num], s1⟩

/-- A MOVE_AXIS on a present figure axis: a HOST target (R144). DESIGN CHOICE (log entry 73): where its drive faults at its start as LIMIT
(R149), the reply gives FAULT_OFF or LOCKED_OUT. -/
def moveFigure (pose : Nat) (a : Axis) (s : State) : Answer :=
  let s1 := give (poseTarget s a .host pose) a s
  ⟨.ok, [n8 (s1.axis a).state.num], s1⟩

/-- MOVE_AXIS. -/
def moveAxis (p : List Byte) (s : State) : Answer :=
  let pose := byteAt p 1
  if s.partLocked then refuse .locked s
  else if !s.engineIdle || !s.presenting || s.halted then refuse .refusedState s
  else
    match axisOf (byteAt p 0) with
    | none => refuse .badArgument s
    | some a =>
      if 15 < pose then refuse .badArgument s
      else if s.isDoor a then (if 1 < pose then refuse .badArgument s else moveDoor pose a s)
      else if !s.isFigure a then refuse .notPresent s
      else if (s.leader a).isSome || (s.axis a).state.refusesMove then refuse .refusedState s
      else moveFigure pose a s

/-- The presentation state is one of service (R145). -/
def Presentation.inService : Presentation → Bool
  | .servicePending | .serviceReady | .service => true
  | .locked | .run | .quiet | .still => false

/-- HOME_AXIS. -/
def homeAxis (p : List Byte) (s : State) : Answer :=
  if s.partLocked then refuse .locked s
  else if !s.engineIdle || s.sv.presentation.inService then refuse .refusedState s
  else
    match axisOf (byteAt p 0) with
    | none => refuse .badArgument s
    | some a =>
      if s.isDoor a then refuse .badArgument s
      else if !s.isFigure a then refuse .notPresent s
      else if (s.axis a).state = .faultOff ∨ (s.axis a).state = .lockedOut then refuse .refusedState s
      else ⟨.accepted, [], requestHome a s⟩

/-! ## CLEAR_FAULT (R118, R151, R162) -/

/-- CLEAR_FAULT naming a bell. The state after the request is the channel's before the head is examined. -/
def clearBell (n : Nat) (s : State) : Answer :=
  match bellOf n with
  | none => refuse .badArgument s
  | some b =>
    if !s.bellPresent b then refuse .notPresent s
    else
      let before := (s.chan b).state
      let s1 := s.modChan b Channel.clearFault
      ⟨.ok, [n8 before.num, n8 (s1.chan b).state.num],
        if before = .faultOff ∨ before = .lockedOut then examineStrikes s1 else s1⟩

/-- CLEAR_FAULT naming an axis. The state after the request is the one it stands in once the homing or the release that follows at this
instant has begun. -/
def clearAxis (n : Nat) (s : State) : Answer :=
  match axisOf n with
  | none => refuse .badArgument s
  | some a =>
    if s.isDoor a then
      let s1 := s.modDoor a DoorRecord.clearFault
      ⟨.ok, [n8 (s.door a).state.num, n8 ((settleMotion s1).door a).state.num], s1⟩
    else if s.isFigure a then
      let s1 := s.modAxis a AxisRecord.clearFault
      ⟨.ok, [n8 (s.axis a).state.num, n8 ((settleMotion s1).axis a).state.num], s1⟩
    else refuse .notPresent s

/-- CLEAR_FAULT by its class, BELL 0 and AXIS 1 (R201). -/
def clearFault (p : List Byte) (s : State) : Answer :=
  match byteAt p 0 with
  | 0 => clearBell (byteAt p 1) s
  | 1 => clearAxis (byteAt p 1) s
  | _ => refuse .badArgument s

/-! ## GET_AXIS and GET_DOOR (R155, R171) -/

/-- The target's fields: position, source, pose, held flag. DESIGN CHOICE (log entry 71): a position takes two bytes. -/
def targetFields (t : Option Target) (held : Bool) : List Field :=
  [.u16 (t.map (·.pos)), .u8 (t.map (·.source.num)), .u8 (t.bind (·.pose)), .u8 (t.map fun _ => held.toNat)]

/-- The list runner's fields: list id, step index, loop flag, stop-after-step flag. -/
def runnerFields (r : Option Runner) : List Field :=
  [.u8 (r.map (·.list)), .u8 (r.map (·.step)), .u8 (r.map (·.loop.toNat)), .u8 (r.map (·.stopAfter.toNat))]

/-- The record of an axis that is no door (R155). DESIGN CHOICE (log entry 71): a position takes two bytes. -/
def axisFields (p : Option AxisProfile) (r : AxisRecord) : List Field :=
  [.u8 (p.bind fun p => p.leader.map (·.val)), .u8 (p.bind fun p => p.leader.map fun _ => FollowMode.num p.follow),
    .u8 (p.bind fun p => p.guardDoor.map (·.val)), n8 r.state.num, flag r.referenced, flag r.homeRequest, n16 r.position] ++
    targetFields r.target r.held ++ runnerFields r.runner ++
    [.u64 (if r.state = .dwelling then r.dwellEnd else none), .u8 (r.drive.map (·.dir.num)), .u8 (r.drive.map (·.duty.num)),
      n8 r.faultCount, .u8 (r.lastFault.map (·.kind.num)), .u64 (r.lastFault.map (·.at_)), .u16 (r.lastFault.bind (·.trip)),
      .u64 (if r.state = .faultOff then r.offEnd else none), n16 r.dropped]

/-- GET_AXIS. -/
def getAxis (b : List Byte) (s : State) : Answer :=
  match axisOf (byteAt b 0) with
  | none => refuse .badArgument s
  | some a =>
    let p := s.axisProfile a
    ⟨.ok, [flag p.isSome, .u8 (p.map fun x => AxisKind.num x.kind)] ++ (if s.isDoor a then [] else axisFields p (s.axis a)), s⟩

/-- The record of a present door (R171). DESIGN CHOICE (log entry 72): the open demand set is an axis set, a PE flag and a LINK flag. -/
def doorFields (guarded : AxisSet) (r : DoorRecord) : List Field :=
  [n8 r.state.num, flag (r.state == .open && r.close.isSome), n8 r.members.toNat, flag r.pe, flag r.link,
    .u8 (r.close.map (·.num)), n8 guarded.toNat, .u8 (r.drive.map (·.dir.num)), .u64 (r.drive.map (·.start)),
    n8 r.faultCount, .u8 (r.lastFault.map (·.kind.num)), .u64 (r.lastFault.map (·.at_)), .u16 (r.lastFault.bind (·.trip)),
    .u64 r.offEnd, flag r.release]

/-- GET_DOOR. -/
def getDoor (b : List Byte) (s : State) : Answer :=
  match axisOf (byteAt b 0) with
  | none => refuse .badArgument s
  | some d =>
    let p := s.axisProfile d
    ⟨.ok, [flag p.isSome, .u8 (p.map fun x => AxisKind.num x.kind)] ++
      (if s.isDoor d then doorFields (setOf (s.isGuarded d) allAxes) (s.door d) else []), s⟩

/-! ## Counts, reversals, dwells (R135, R136, R142) -/

/-- The dead time of a reversal is over (R135). -/
def Drive.endReversal (now : Nat) (d : Drive) : Drive := { d with deadUntil := d.deadUntil.filter (now < ·) }

/-- REVERSAL_END, of an axis or of a door. -/
def reversalEnd (a : Axis) (s : State) : State :=
  let s1 := s.modAxis a fun r => { r with drive := r.drive.map (·.endReversal s.now) }
  s1.modDoor a fun r => { r with drive := r.drive.map (·.endReversal s.now) }

/-- DWELL_END. -/
def dwellOver (a : Axis) (s : State) : State :=
  if (s.axis a).state = .dwelling ∧ (s.axis a).dwellEnd.any (· ≤ s.now) then dwellNext listFuel a s else s

/-! ## Switches (R140, R149, R160, R161) -/

/-- A door's CLOSED switch becomes active: a closing door arrives, its count 0 (R160). -/
def doorArriveClosed (d : Axis) (s : State) : State :=
  if (s.door d).state = .closing then enterClosed d (s.modDoor d fun r => { r with faultCount := 0 }) else s

/-- A door's OPEN switch changes: an opening door arrives, its count 0 (R160); the absence of an open door's switch is timed (R161). -/
def doorOpenSwitch (d : Axis) (active : Bool) (s : State) : State :=
  match (s.door d).state, active with
  | .opening, true => enterOpen d (s.modDoor d fun r => { r with faultCount := 0 })
  | .open, true => s.modDoor d fun r => { r with openLost := none }
  | .open, false => s.modDoor d fun r => { r with openLost := r.openLost.or (some s.now) }
  | .opening, false | .closed, _ | .closing, _ | .fault, _ => s

/-- A home switch changes: homing ends (R140); on a door it is the CLOSED switch. -/
def homeSwitchChange (a : Axis) (active : Bool) (s : State) : State :=
  let s1 := s.modPins fun p => { p with home := putBit p.home a.val active }
  if !active then s1
  else if s.isDoor a then doorArriveClosed a s1
  else if (s.axis a).state = .homing then endHoming a s1
  else s1

/-- A far switch changes: the limit watch of a LINEAR axis (R149); on a door, present or not yet known, it is the OPEN switch. -/
def farSwitchChange (a : Axis) (active : Bool) (s : State) : State :=
  let s1 := s.modPins fun p => { p with far := putBit p.far a.val active }
  doorOpenSwitch a active (if active then judgeLimit a s1 else s1)

/-- DOOR_SWITCH_CHANGE. -/
def doorSwitchChange (d : Axis) (sw : DoorSwitch) (active : Bool) (s : State) : State :=
  match sw with
  | .open => farSwitchChange d active s
  | .closed => homeSwitchChange d active s

/-! ## The current watch (R149, R161) -/

/-- ALIM_CHANGE: a run of activity is timed while the axis or door is driven. -/
def alimChange (a : Axis) (active : Bool) (s : State) : State :=
  let s1 := s.modPins fun p => { p with alim := putBit p.alim a.val active }
  let trip : Option Nat := if active then (s.axisProfile a).map (tripFrom · s.now) else none
  let watch (driven : Bool) (t : Option Nat) : Option Nat := if !active then none else if driven then t.or trip else t
  let s2 := s1.modAxis a fun r => { r with tripAt := watch r.drive.isSome r.tripAt }
  s2.modDoor a fun r => { r with tripAt := watch r.drive.isSome r.tripAt }

/-- AXIS_OVERCURRENT. -/
def axisOvercurrent (a : Axis) (s : State) : State :=
  let r := s.axis a
  if r.drive.isSome ∧ r.tripAt.any (· ≤ s.now) then axisFault .overcurrent a s else s

/-- DOOR_OVERCURRENT. -/
def doorOvercurrent (d : Axis) (s : State) : State :=
  let r := s.door d
  if r.drive.isSome ∧ r.tripAt.any (· ≤ s.now) then doorOverCurrent d s else s

/-! ## Timers of axes (R148, R150) -/

/-- A drive has gone `limit` microseconds from the instant `from_` gives. -/
def driveOver (drive : Option Drive) (from_ : Drive → Nat) (limit now : Nat) : Bool :=
  drive.any fun d => decide (from_ d + limit ≤ now)

/-- The stall window and the travel timeout of a present axis, in microseconds (R134). -/
def stallLimit (s : State) (a : Axis) : Option Nat := (s.axisProfile a).map (·.stallWindow * 1000)
def travelLimit (s : State) (a : Axis) : Option Nat := (s.axisProfile a).map (·.travelTimeout * 1000000)

/-- AXIS_STALL. -/
def axisStall (a : Axis) (s : State) : State :=
  if (stallLimit s a).any fun l => driveOver (s.axis a).drive Drive.stallFrom l s.now then axisFault .stall a s else s

/-- TRAVEL_TIMEOUT. -/
def travelTimeout (a : Axis) (s : State) : State :=
  if (travelLimit s a).any fun l => driveOver (s.axis a).drive Drive.start l s.now then axisFault .timeout a s else s

/-- AXIS_OFF_TIME_END. -/
def axisOffTimeEnd (a : Axis) (s : State) : State :=
  if (s.axis a).state = .faultOff ∧ (s.axis a).offEnd.any (· ≤ s.now) then s.modAxis a (·.endOffTime) else s

/-! ## Timers of doors (R161) -/

/-- DOOR_TIMEOUT. -/
def doorTimeout (d : Axis) (s : State) : State :=
  if (travelLimit s d).any fun l => driveOver (s.door d).drive Drive.start l s.now then
    countDoorFault d (doorFault .timeout none d s)
  else s

/-- SWITCH_LOST: the 200,001st microsecond of the absence. -/
def switchLost (d : Axis) (s : State) : State :=
  match (s.door d).openLost with
  | none => s
  | some t =>
    if s.isDoor d ∧ (s.door d).state = .open ∧ t + 200001 ≤ s.now then
      countDoorFault d (doorFault .switchLost none d s)
    else s

/-- DOOR_OFF_TIME_END. -/
def doorOffTimeEnd (d : Axis) (s : State) : State :=
  if (s.door d).offEnd.any (· ≤ s.now) then s.modDoor d fun r => { r with offEnd := none, release := true } else s

end Sys2Proof.Machine
end

