-- ==== Sys2Proof/Machine/PerformanceEffects.lean ====
section
/-! DEFINITION. The effects behind the Performance Engine's commands (chapter 4): the instants of a performance, its timers, prefetch, the
self-test and the log. -/

namespace Sys2Proof.Machine

/-! ## The instants of a performance (R65, R15, R69, R74, R77, R80) -/

/-- PREPARATION_LIMIT: the score begins whether or not the preparation is complete. -/
def preparationLimit (s : State) : State :=
  if s.pe.engine = .preparing ∧ s.pe.perf.any (fun p => decide (p.prepLimit ≤ (s.now : Int))) then startPlaying s else s

/-- DIVISION_INSTANT: the division being timed has ended, and the next boundary's events are carried out. -/
def divisionInstant (s : State) : State :=
  match s.tb.synth.divEnd with
  | none => s
  | some e => if s.pe.engine = .playing ∧ e ≤ s.now then runEvents (s.modSynth (·.nextBoundary e)) else s

/-- WAIT_LIMIT_EXPIRY. -/
def waitLimitExpiry (s : State) : State :=
  match s.pe.hold with
  | .wait _ limit _ => if limit ≤ s.now then releaseHold (countWaitTimeout s) else s
  | .none | .stall _ => s

/-- STALL_TIMEOUT. -/
def stallTimeout (s : State) : State :=
  match s.pe.hold with
  | .stall since => if since + 500000 ≤ s.now then enterCoda .storeStall s else s
  | .none | .wait _ _ _ => s

/-- The result where the coda times out (R77). -/
def Performance.codaTimedOut (p : Performance) : Performance :=
  if p.result = some .completed then { p with result := some .codaTimeout } else p

/-- CODA_TIMEOUT. -/
def codaTimeout (s : State) : State :=
  match s.pe.codaStart, s.lu.profile with
  | some t, some p =>
    if s.pe.engine = .coda ∧ t + p.codaTimeoutS * 1000000 ≤ s.now then enterIdle (modPerf (·.codaTimedOut) s) else s
  | _, _ => s

/-- SUPPLY_TIMER_EXPIRY. -/
def supplyTimerExpiry (s : State) : State :=
  if s.pe.supplyTimer.any (· ≤ s.now) then abortToIdle .abortedSupply true s else s

/-- THERMAL_TIMER_EXPIRY. -/
def thermalTimerExpiry (s : State) : State :=
  if s.pe.thermalTimer.any (· ≤ s.now) then abortToIdle .abortedThermal true s else s

/-! ## Prefetch (R42, R72, R74) -/

/-- The bytes of a read enter the ring while the engine prepares or plays; otherwise they are discarded (R72). -/
def fillRing (address : Nat) (data : List Byte) (s : State) : State :=
  match s.pe.engine with
  | .preparing | .playing =>
    let i := (address - (s.pe.perf.map (·.entry.scoreAddress)).getD 0) / 4
    requestReads (s.modPe fun e => { e with ring := e.ring ++ ringEvents i data })
  | .idle | .coda | .selfTest => s

/-- PREFETCH_READ_END. A stall it ends is released at once. -/
def prefetchReadEnd (data : List Byte) (s : State) : State :=
  match endedTransfer .prefetch data s with
  | none => s
  | some u =>
    let s1 := freePort s
    match u.transfer with
    | .read a _ => grantPort (if u.discard then s1 else fillRing a data s1)
    | .writeEnable | .pageProgram _ _ | .sectorErase _ | .readStatus => grantPort s1

/-! ## The self-test (R86 to R88) -/

/-- SELF_TEST. -/
def selfTest (_ : List Byte) (s : State) : Answer :=
  if s.partLocked then refuse .locked s
  else if !s.engineIdle then refuse .refusedState s
  else
    match s.sv.presentation with
    | .servicePending | .serviceReady | .service => refuse .refusedState s
    | .locked | .run | .quiet | .still =>
      if s.muted then refuse .refusedState s else ⟨.accepted, [], beginSelfTest s⟩

/-- A bell's result and its reason (R86, R87). DESIGN CHOICE (log entry 66): NOT_RUN and ABSENT of R86 are 0 and 1, and the results of R87's
table follow from 2. -/
def BellResult.fields : BellResult → List Field
  | .notRun => [n8 0, .u8 none]
  | .absent => [n8 1, .u8 none]
  | .dropped r => [n8 2, n8 r.num]
  | .incomplete => [n8 3, .u8 none]
  | .pass => [n8 4, .u8 none]
  | .miss => [n8 5, .u8 none]
  | .noPickup => [n8 6, .u8 none]

/-- The state of the results and the cause when DONE (R88). -/
def TestState.fields : TestState → List Field
  | .none => [n8 0, .u8 Option.none]
  | .running => [n8 1, .u8 Option.none]
  | .done c => [n8 2, n8 c.num]

/-- GET_SELF_TEST. -/
def getSelfTest (_ : List Byte) (s : State) : Answer :=
  ⟨.ok, s.pe.selfTest.state.fields ++ s.pe.selfTest.results.toList.flatMap BellResult.fields, s⟩

/-- SELF_TEST_HANDOFF: the next present bell is handed over at its instant. -/
def selfTestHandoff (s : State) : State :=
  match s.pe.selfTest.todo with
  | [] => s
  | b :: rest =>
    if s.pe.engine = .selfTest ∧ s.pe.selfTest.start + 500000 * s.pe.selfTest.handed ≤ s.now then handOver b rest s else s

/-! ## The log (R84, 11.2) -/

/-- The flags of a log record: bits 0 to 3. -/
def PerfFlags.num (f : PerfFlags) : Nat :=
  f.degraded.toNat + 2 * f.lateStart.toNat + 4 * f.tempoClamped.toNat + 8 * f.mutedPart.toNat

/-- The 43 bytes of a log record (11.2). -/
def LogRecord.fields (r : LogRecord) : List Field :=
  [n16 r.seq, n8 r.id, n8 r.origin.num, n8 r.count, n8 r.mode.num, .wall (some r.due), .wall r.start, .wall (some r.finish),
    .u8 (r.result.map (·.num)), n8 r.flags.num, n16 r.fired, n16 r.dropped, n16 r.misses, n16 r.stalls]

/-- READ_LOG. -/
def readLog (p : List Byte) (s : State) : Answer :=
  if byteAt p 0 ≤ 15 ∧ 1 ≤ byteAt p 1 ∧ byteAt p 1 ≤ 4 then
    let l := (s.pe.log.drop (byteAt p 0)).take (byteAt p 1)
    ⟨.ok, n8 l.length :: l.flatMap LogRecord.fields, s⟩
  else refuse .badArgument s

end Sys2Proof.Machine
end

