-- ==== Sys2Proof/Machine/ScheduleEffects.lean ====
section
/-! DEFINITION. The effects behind the Schedule Unit's commands (chapter 2): the answers about the tables and the show queue, and the
triggers. -/

namespace Sys2Proof.Machine

/-! ## The tables (R23, R24) -/

/-- SET_SEASON: the season is evaluated and the next trigger recomputed (R22, R27). -/
def setSeason (p : List Byte) (s : State) : Answer :=
  let i := byteAt p 0
  let e := seasonAt p 1
  if i ≤ 15 ∧ e.ok then
    ⟨.ok, [], recomputeTrigger (evaluateSeason (s.modSu fun u => { u with seasons := u.seasons.setIfInBounds i e }))⟩
  else refuse .badArgument s

/-- An entry's fields in the layout of 11.4. -/
def SeasonEntry.fields (e : SeasonEntry) : List Field :=
  [flag e.enabled, n8 e.startMonth, n8 e.startDay, n8 e.endMonth, n8 e.endDay, n8 e.weekdays.toNat, n8 e.priority,
    n8 e.programme]

/-- GET_SEASON. -/
def getSeason (p : List Byte) (s : State) : Answer :=
  match s.su.seasons[byteAt p 0]? with
  | none => refuse .badArgument s
  | some e => ⟨.ok, e.fields, s⟩

/-- An hour entry of the programme table is replaced. -/
def putHour (programme hour : Nat) (e : HourEntry) (u : ScheduleUnit) : ScheduleUnit :=
  let hours := (u.programmes[programme]?).getD (Vector.replicate 24 HourEntry.empty)
  { u with programmes := u.programmes.setIfInBounds programme (hours.setIfInBounds hour e) }

/-- SET_HOUR: the next trigger is recomputed (R27). -/
def setHour (p : List Byte) (s : State) : Answer :=
  if byteAt p 0 ≤ 7 ∧ byteAt p 1 ≤ 23 then
    match hourEntryAt p 2 with
    | none => refuse .badArgument s
    | some e =>
      ⟨.ok, [], recomputeTrigger (s.modSu (putHour (byteAt p 0) (byteAt p 1) e))⟩
  else refuse .badArgument s

/-- The hour entry of a programme and an hour. -/
def hourEntry (s : State) (programme hour : Nat) : Option HourEntry := (s.su.programmes[programme]?).bind (·[hour]?)

/-- GET_HOUR. -/
def getHour (p : List Byte) (s : State) : Answer :=
  match hourEntry s (byteAt p 0) (byteAt p 1) with
  | none => refuse .badArgument s
  | some e => ⟨.ok, [.u8 e.hourShow, .u8 e.quarterShow, n8 e.mode.num], s⟩

/-! ## PLAY_SHOW, STOP_SHOW, GET_QUEUE (R36, R79, R37) -/

/-- The arguments of a PLAY_SHOW, where they pass its third check (R36): show id, count, mode, and the given start. -/
def playArguments (p : List Byte) (s : State) : Option (Nat × Nat × Mode × Option Nat) :=
  match Mode.ofNum (byteAt p 2) with
  | none => none
  | some m =>
    if 63 < byteAt p 0 then none
    else
      match byteAt p 3 with
      | 0 => some (byteAt p 0, byteAt p 1, m, none)
      | 1 =>
        let t := dateTimeAt p 4
        let r := readingOf t
        if validDateTime t && decide (s.tb.reading ≤ r ∧ r ≤ s.tb.reading + dayMicros) then
          some (byteAt p 0, byteAt p 1, m, some r)
        else none
      | _ => none

/-- The LINK request of a taken PLAY_SHOW (R36). DESIGN CHOICE (log entry 53): a due instant past the end of the calendar does not wrap. -/
def linkRequest (id count : Nat) (m : Mode) (start : Option Nat) (e : DirEntry) (s : State) : ShowRequest :=
  { id := id
    origin := .link
    count := max 1 (min count 12)
    mode := m
    due := start.getD (s.tb.reading + e.preroll * 1000)
    posting := s.tb.reading
    given := start.isSome }

/-- PLAY_SHOW. -/
def playShow (p : List Byte) (s : State) : Answer :=
  if s.partLocked then refuse .locked s
  else if !s.presenting then refuse .refusedState s
  else
    match playArguments p s with
    | none => refuse .badArgument s
    | some (id, count, m, start) =>
      match s.entryOf id with
      | none => refuse .notPresent s
      | some e =>
        if e.stale then refuse .notPresent s
        else if 4 ≤ s.su.queue.length then refuse .queueFull s
        else
          ⟨.ok, [n8 (s.su.queue.length + 1)],
            examineNewHead s (countPosted (setQueue (s.su.queue ++ [linkRequest id count m start e s]) s))⟩

/-- What STOP_SHOW does to the engine (R79). -/
def stopEngine (s : State) : State := stopSelfTest .stopped (abortToCoda .abortedLink s)

/-- STOP_SHOW: the engine acts, and then the queue is flushed where the flag is set. -/
def stopShow (p : List Byte) (s : State) : Answer :=
  let s1 := stopEngine s
  if flagAt p 0 then ⟨.ok, [n8 s.pe.engine.num, n8 s1.su.queue.length], flushQueue s1⟩
  else ⟨.ok, [n8 s.pe.engine.num, n8 0], s1⟩

/-- The head is a held LINK request (R33). -/
def headIsHeld (s : State) : Bool :=
  match s.su.queue.head? with
  | none => false
  | some r => (s.entryOf r.id).any fun e => headHeld r e s

/-- The queue's requests, the head with its held flag (R37). -/
def queueFields (s : State) : List Field :=
  match s.su.queue with
  | [] => []
  | r :: rest => r.fields ++ [flag (headIsHeld s)] ++ rest.flatMap ShowRequest.fields

/-- A trigger's name: date, hour, quarter (2.3). DESIGN CHOICE (log entry 55): one byte each, the year counted from 2000. -/
def triggerFields : Option Nat → List Field
  | none => [.u8 none, .u8 none, .u8 none, .u8 none, .u8 none]
  | some t =>
    let d := dateTimeOf (dueOf t)
    [n8 (d.year - 2000), n8 d.month, n8 d.day, n8 (triggerHour t), n8 (triggerQuarter t)]

/-- The record: its form, the trigger it names and the instant it is clear since. DESIGN CHOICE (log entry 55): a form byte, 0 for a named
trigger and 1 for clear, and the fields of the form it has not are absent. -/
def recordFields : TriggerRecord → List Field
  | .named t => [n8 0] ++ triggerFields (some t) ++ [.wall none]
  | .clearSince r => [n8 1] ++ triggerFields none ++ [.wall (some r)]

/-- The next trigger's name, show, mode, count and posting instant (R37). -/
def nextTriggerFields (s : State) : List Field :=
  let n := nextTrigger s
  triggerFields n ++ [.u8 (n.bind (triggerShow s)), .u8 (n.map fun t => (triggerEntry s t).mode.num),
    .u8 (n.map triggerCount), .wall (n.map (postingOf s))]

/-- GET_QUEUE. -/
def getQueue (_ : List Byte) (s : State) : Answer :=
  let c := s.su.counters
  ⟨.ok, [n8 s.su.queue.length] ++ queueFields s ++ recordFields s.su.record ++ nextTriggerFields s ++
    [n16 c.posted, n16 c.missing, n16 c.skipped, n16 c.suppressed, n16 c.droppedFull, n16 c.late], s⟩

/-! ## Held heads (R33) -/

/-- The head is a LINK request with a given start whose instant has come (R33). -/
def heldHeadDue (s : State) : Bool :=
  match s.su.queue.head? with
  | none => false
  | some r => r.given && (s.entryOf r.id).any fun e => !headHeld r e s

end Sys2Proof.Machine
end

