-- ==== Sys2Proof/Machine/StoreEffects.lean ====
section
/-! DEFINITION. The effects behind the Library Unit's commands (chapter 3): the answers of the store requests, RESCAN and
GET_WALK_REPORT, and the ends and timeouts of transfers. -/

namespace Sys2Proof.Machine

/-! ## Requests (R54 to R58) -/

/-- An operation is in flight or a walk is in progress (R54). -/
def storeBusy (s : State) : Bool := s.lu.storeOp.isSome || s.lu.walk.isSome

/-- STORE_READ. -/
def storeRead (p : List Byte) (s : State) : Answer :=
  let a := numAt p 0 4
  let n := byteAt p 4
  if storeBusy s then refuse .busy s
  else if a < Config.storeSize ∧ 1 ≤ n ∧ n ≤ 128 ∧ a + n ≤ Config.storeSize then
    ⟨.accepted, [], takeStoreOp ⟨.read, a, n, [], .poll none⟩ s⟩
  else refuse .badArgument s

/-- STORE_WRITE. -/
def storeWrite (p : List Byte) (s : State) : Answer :=
  let a := numAt p 0 4
  let n := byteAt p 4
  if storeBusy s then refuse .busy s
  else if !s.engineIdle then refuse .busyPerforming s
  else if 1 ≤ n ∧ n ≤ 128 ∧ a % 256 + n ≤ 256 ∧ a < Config.storeSize then
    ⟨.accepted, [], takeStoreOp ⟨.write, a, n, p.drop 5, .poll none⟩ s⟩
  else refuse .badArgument s

/-- STORE_ERASE. -/
def storeErase (p : List Byte) (s : State) : Answer :=
  let a := numAt p 0 4
  if storeBusy s then refuse .busy s
  else if !s.engineIdle then refuse .busyPerforming s
  else if a % 4096 = 0 ∧ a < Config.storeSize then
    ⟨.accepted, [], takeStoreOp ⟨.erase, a, 4096, [], .poll none⟩ s⟩
  else refuse .badArgument s

/-- Kind, address and length of an operation; a RESCAN has no address and no length. DESIGN CHOICE (log entry 57): the length takes two
bytes, since an erase's is 4,096. -/
def operationFields (k : StoreKind) (a n : Nat) : List Field :=
  if k = .rescan then [n8 k.num, .u32 none, .u16 none] else [n8 k.num, n32 a, n16 n]

/-- STORE_RESULT: NONE, IN_FLIGHT or DONE (R58). DESIGN CHOICE (log entry 76): NONE and IN_FLIGHT leave out the fields they do not have. -/
def storeResult (_ : List Byte) (s : State) : Answer :=
  match s.lu.storeOp, s.lu.storeResult with
  | some o, _ => ⟨.ok, n8 1 :: operationFields o.kind o.address o.length, s⟩
  | none, some r => ⟨.ok, n8 2 :: operationFields r.kind r.address r.length ++ [n8 r.outcome.num, .bytes r.data], s⟩
  | none, none => ⟨.ok, [n8 0], s⟩

/-- A RESCAN is taken (R60): the walk starts, the part becomes LOCKED where it was not, and the next trigger is recomputed from the emptied
tables and directory (R27, R39). -/
def beginRescan (s : State) : State :=
  let ready := !s.partLocked
  let s1 := startWalk (takeStoreOp ⟨.rescan, 0, 0, [], .walking⟩ s)
  grantPort (recomputeTrigger (if ready then becomeLocked s1 else s1))

/-- RESCAN. -/
def rescan (_ : List Byte) (s : State) : Answer :=
  if storeBusy s then refuse .busy s
  else if !s.engineIdle then refuse .busyPerforming s
  else ⟨.accepted, [], beginRescan s⟩

/-- The bell or axis of a failed check (R53). DESIGN CHOICE (log entry 56): two bytes, bell then axis, absent where the row has none. -/
def CheckScope.fields : CheckScope → List Field
  | .global => [.u8 none, .u8 none]
  | .bell b => [n8 b, .u8 none]
  | .axis a => [.u8 none, n8 a]

/-- Address and length of a record, or none (R53). DESIGN CHOICE (log entry 65): the length takes two bytes. -/
def recordPlace (r : Option (Nat × Nat)) : List Field := [.u32 (r.map (·.1)), .u16 (r.map (·.2))]

/-- GET_WALK_REPORT (R53). The end reason counts by R51, the chain reason by R46 (log entry 51). DESIGN CHOICE (log entry 69): every count of
the report takes the two bytes of a counter. -/
def walkReport (_ : List Byte) (s : State) : Answer :=
  let r := s.lu.report
  ⟨.ok, [n8 s.lu.dirState.num, .u8 (r.endReason.map (·.num)), .u8 (r.chainReason.bind (·.chainNum)), n16 r.visited, n16 r.badCrc,
      n16 r.duplicate, n16 r.unknown, n16 r.badContent, n16 r.showsLoaded, n16 r.listsLoaded, n16 r.emptySeasons,
      n16 r.emptyHours] ++ recordPlace r.install ++ recordPlace r.seasons ++ recordPlace r.programmes ++
    [.u8 (r.failedCheck.map (·.1))] ++ ((r.failedCheck.map (·.2.fields)).getD [.u8 none, .u8 none]) ++
    [.u32 r.firstBad, .u32 r.lastVisited, flag r.dropped], s⟩

/-! ## Transfers (R41 to R46, R55 to R57) -/

/-- WALK_TRANSFER_END: the bytes go to the walk if it still asks for this transfer, and the port is granted again. A show that enters the
directory has the next trigger recomputed (R27). -/
def walkTransferEnd (data : List Byte) (s : State) : State :=
  match endedTransfer .walk data s, s.lu.walk with
  | some u, some w =>
    let s1 := freePort s
    let r := if u.transfer = w.phase.transfer then walkStep w.phase data s1 else (s1, none)
    let s2 := recomputeTrigger r.1
    grantPort (match r.2 with | some reason => endWalk reason s2 | none => s2)
  | _, _ => s

/-- WALK_STATUS_TIMEOUT: the walk goes on regardless. A status read in progress runs to its end. -/
def walkStatusTimeout (s : State) : State :=
  match s.lu.walk with
  | none => s
  | some w =>
    match w.phase with
    | .poll (some f) =>
      if f + 1000000 ≤ s.now then grantPort (modWalk (fun w => { w with phase := .header }) s) else s
    | .poll none | .header | .recordHeader _ | .recordBody _ _ => s

/-- STORE_TRANSFER_END: the bytes go to the operation in flight, unless it has ended meanwhile. -/
def storeTransferEnd (data : List Byte) (s : State) : State :=
  match endedTransfer .store data s with
  | none => s
  | some u =>
    let s1 := freePort s
    grantPort
      (match s.lu.storeOp with
      | some o => if u.discard then s1 else storeStep o data s1
      | none => s1)

/-- STORE_BUSY_TIMEOUT: the flash has stayed busy for 1,000,000 µs after the operation's first status read (R55 to R57). -/
def storeBusyTimeout (s : State) : State :=
  match s.lu.storeOp with
  | none => s
  | some o =>
    match o.phase with
    | .poll (some f) => if f + 1000000 ≤ s.now then endStoreOp o .timeout [] s else s
    | .poll none | .reading | .writeEnable | .change | .after _ _ | .walking => s

/-- The flash is still busy `limit` microseconds after a program or an erase (R56, R57). -/
def changeTimeout (k : StoreKind) (limit : Nat) (s : State) : State :=
  match s.lu.storeOp with
  | none => s
  | some o =>
    match o.phase with
    | .after since true => if o.kind = k ∧ since + limit ≤ s.now then endStoreOp o .timeout [] s else s
    | .after _ false | .poll _ | .reading | .writeEnable | .change | .walking => s

end Sys2Proof.Machine
end

