-- ==== Sys2Proof/Machine/StrikeEffects.lean ====
section
/-! DEFINITION. The effects behind the Strike Unit's commands (chapters 5 and 6): the answers about bells and the counter, the instants of
the strike queue and of the channels, and the bells' inputs. -/

namespace Sys2Proof.Machine

/-! ## Requests (R85, R118, R129 to R131) -/

/-- STRIKE_TEST. -/
def strikeTest (p : List Byte) (s : State) : Answer :=
  let v := byteAt p 1
  if s.partLocked then refuse .locked s
  else if !s.engineIdle then refuse .refusedState s
  else
    match bellOf (byteAt p 0) with
    | none => refuse .badArgument s
    | some b =>
      if v = 0 ∨ 127 < v then refuse .badArgument s
      else if !s.bellPresent b then refuse .notPresent s
      else ⟨.ok, [], strikeArrives ⟨b, v, s.now, .test, none⟩ s⟩

/-- The end that goes with a channel's state (R131). -/
def Channel.stateEnd (c : Channel) : Option Nat :=
  match c.state with
  | .pulse => some c.pulseEnd
  | .recovery => c.recoveryEnd
  | .faultOff => c.offEnd
  | .ready | .retryReady | .lockedOut => none

/-- NONE, OPEN or AWAITING_END (6.1). -/
def Verification.num : Verification → Nat
  | .none => 0
  | .open _ _ => 1
  | .awaitingEnd _ => 2

/-- How a fired pulse ended, IN_FLIGHT after the four ends while it runs (R108); absent at a drop. -/
def StrikeOutcome.fields : StrikeOutcome → List Field × Field
  | .fired e => ([n8 0, .u8 none], .u8 (some ((e.map (·.num)).getD 4)))
  | .dropped r => ([n8 1, n8 r.num], .u8 none)

/-- The last strike record (R108, R132). -/
def lastStrikeFields (l : Option LastStrike) : List Field :=
  let g (f : Stages → Nat) : Field := .u16 ((l.bind (·.stages)).map f)
  let o := (l.map fun l => l.outcome.fields).getD ([.u8 none, .u8 none], .u8 none)
  [.u8 (l.map (·.origin.num)), .u8 (l.map (·.velocity)), .u64 (l.map (·.due))] ++ o.1 ++
    [.u64 (l.map (·.at_)), g (·.vm), g (·.vc), g (·.w0), g (·.w1), g (·.w2), g (·.w3),
      .u32 ((l.bind (·.stages)).map (·.heat)), o.2, .u8 ((l.bind (·.verify)).map (·.num))]

/-- GET_BELL. -/
def getBell (p : List Byte) (s : State) : Answer :=
  match bellOf (byteAt p 0) with
  | none => refuse .badArgument s
  | some b =>
    let c := s.chan b
    ⟨.ok, [flag (s.bellPresent b), n8 c.state.num, .u64 c.stateEnd, flag c.trial, n8 c.faultCount,
      .u8 (c.lastFault.map (·.kind.num)), .u64 (c.lastFault.map (·.at_)), .u16 (c.lastFault.bind (·.trip)),
      n32 c.heat, n8 c.warm.toNat, n8 c.dampEnd.isSome.toNat, .u64 c.dampEnd, n8 c.missCount, n8 c.verification.num] ++
      lastStrikeFields c.lastStrike, s⟩

def QualitySource.ofNum : Nat → Option QualitySource
  | 0 => some .misses | 1 => some .thermalDrops | 2 => some .lateDrops | 3 => some .allDrops | _ => none

def QualityMode.ofNum : Nat → Option QualityMode
  | 0 => some .manual | 1 => some .auto | _ => none

/-- A source and a mode are selected (R129). -/
def QualityCounter.select (src : QualitySource) (m : QualityMode) (q : QualityCounter) : QualityCounter :=
  if src = q.source then { q with mode := m } else { q with source := src, mode := m, count := 0, fullReported := false }

/-- COUNTER_SELECT. -/
def counterSelect (p : List Byte) (s : State) : Answer :=
  match QualitySource.ofNum (byteAt p 0), QualityMode.ofNum (byteAt p 1) with
  | some src, some m =>
    let q := s.st.quality.select src m
    ⟨.ok, [n16 q.count, n16 q.held], s.modSt fun u => { u with quality := q }⟩
  | _, _ => refuse .badArgument s

/-- COUNTER_SNAPSHOT. -/
def counterSnapshot (_ : List Byte) (s : State) : Answer :=
  let s1 := if s.st.quality.mode = .manual then qualityTransfer s else s
  ⟨.ok, [n16 s1.st.quality.held], s1⟩

/-! ## The strike queue's instants (R94) -/

/-- STRIKE_HEAD_DUE. -/
def strikeHeadDue (s : State) : State :=
  if s.st.queue.head?.any (fun q => decide (q.due ≤ s.now)) then examineStrikes s else s

/-- SLACK_EXPIRY. -/
def slackExpiry (s : State) : State :=
  if s.st.queue.head?.any (fun q => decide (q.due + s.slack + 1 ≤ s.now)) then examineStrikes s else s

/-! ## The pulse (R100, R102, R112 to R116) -/

/-- PULSE_END: a pulse whose presence was not seen by now is an open coil (R114), any other ends cleanly (R100). -/
def pulseEnd (b : Bell) (s : State) : State :=
  if (s.chan b).state = .pulse ∧ (s.chan b).pulseEnd ≤ s.now then
    (if (s.chan b).presenceSeen then endPulseClean b s else openCoil b s)
  else s

/-- RECOVERY_END. -/
def recoveryEnd (b : Bell) (s : State) : State :=
  if (s.chan b).state = .recovery ∧ (s.chan b).recoveryEnd.any (· ≤ s.now) then endRecovery b s else s

/-- HLIM_CHANGE: a run of activity during a pulse is timed from its start, and forgotten at its end (R112). -/
def hlimChange (b : Bell) (active : Bool) (s : State) : State :=
  let trip := s.now + blankingTime (s.bellProfile b).blankCode + 1
  let s1 := s.modPins fun p => { p with hlim := putBit p.hlim b.val active }
  if (s.chan b).state = .pulse then
    s1.modChan b fun c => { c with tripAt := if active then c.tripAt.or (some trip) else none }
  else s1

/-- HPRS_ACTIVE (and the input's return, which only the pin's level keeps). -/
def hprsChange (b : Bell) (active : Bool) (s : State) : State :=
  let s1 := s.modPins fun p => { p with hprs := putBit p.hprs b.val active }
  if (s.chan b).state = .pulse ∧ active then s1.modChan b fun c => { c with presenceSeen := true } else s1

/-- OVER_CURRENT. -/
def overCurrent (b : Bell) (s : State) : State :=
  if (s.chan b).state = .pulse ∧ (s.chan b).tripAt.any (· ≤ s.now) then bellOverCurrent b s else s

/-- The presence deadline of a pulse (R114). -/
def Channel.presenceDeadline (c : Channel) : Nat := min (c.pulseStart + 2000) c.pulseEnd

/-- PRESENCE_DEADLINE. -/
def presenceDeadline (b : Bell) (s : State) : State :=
  let c := s.chan b
  if c.state = .pulse ∧ c.presenceDeadline ≤ s.now ∧ !c.presenceJudged then
    (if c.presenceSeen then s.modChan b fun c => { c with presenceJudged := true } else openCoil b s)
  else s

/-- BELL_OFF_TIME_END. -/
def bellOffTimeEnd (b : Bell) (s : State) : State :=
  if (s.chan b).state = .faultOff ∧ (s.chan b).offEnd.any (· ≤ s.now) then
    examineStrikes (s.modChan b fun c => { c with state := .retryReady, offEnd := none })
  else s

/-! ## Heat, dampers, verification (R121, R124, R126) -/

/-- DECAY_TICK, at multiples of 100,000 of the counter. -/
def decayTick (s : State) : State :=
  if s.now % 100000 = 0 then reportWarm (forEach decayBell allBells s) else s

/-- DAMP_END. -/
def damperEnd (b : Bell) (s : State) : State :=
  if (s.chan b).dampEnd.any (· ≤ s.now) then s.modChan b fun c => { c with dampEnd := none } else s

/-- PICKUP_EDGE. -/
def pickupEdge (b : Bell) (s : State) : State :=
  s.modChan b fun c =>
    { c with verification :=
        match c.verification with
        | .open e _ => .open e true
        | .none => .none
        | .awaitingEnd h => .awaitingEnd h }

/-- VERIFY_WINDOW_END: the verdict is given, or waits for the pulse's clean end. -/
def verifyWindowEnd (b : Bell) (s : State) : State :=
  match (s.chan b).verification with
  | .open e heard =>
    if e ≤ s.now then
      (if (s.chan b).state = .pulse then s.modChan b fun c => { c with verification := .awaitingEnd heard }
      else verdict b heard s)
    else s
  | .none | .awaitingEnd _ => s

end Sys2Proof.Machine
end

