-- ==== Sys2Proof/Machine/SupervisionEffects.lean ====
section
/-! DEFINITION. The effects behind the Supervision Unit's commands and the service sequence (chapters 8 and 9): the answers of SET_STATE,
SERVICE, RESUME and SET_CODES, the service button, the lamp, the hatch, the monitors and the CODE input. -/

namespace Sys2Proof.Machine

/-! ## SET_STATE (R185) -/

/-- SET_STATE RUN or QUIET, from whatever state: OPERATOR is removed or added, an owed park of STILL is cancelled, and the head is
examined. -/
def setPlaying (p : Presentation) (s : State) : State :=
  let s1 := putReason .operator (p == .quiet) s
  enterPresentation p (if s.sv.presentation = .still then owePark false s1 else s1)

/-- SET_STATE STILL: from RUN or QUIET the queue is flushed and a park becomes owed. -/
def setStill (s : State) : State :=
  if s.sv.presentation = .still then s else owePark true (enterPresentation .still s)

/-- The state a SET_STATE carries, RUN 0, QUIET 1, STILL 2. -/
def carriedState : Nat → Option Presentation
  | 0 => some .run
  | 1 => some .quiet
  | 2 => some .still
  | _ => none

/-- The reply of a SET_STATE: the presentation state and the mute reason set after it. -/
def stateReply (s : State) : Answer := ⟨.ok, [n8 s.sv.presentation.num, n8 s.sv.mute.num], s⟩

/-- SET_STATE. -/
def setState (b : List Byte) (s : State) : Answer :=
  match s.sv.presentation with
  | .locked | .servicePending | .serviceReady | .service => refuse .refusedState s
  | .run | .quiet | .still =>
    match carriedState (byteAt b 0) with
    | none => refuse .badArgument s
    | some .still => stateReply (setStill s)
    | some p => stateReply (setPlaying p s)

/-! ## SERVICE, RESUME and the button (R167, R170) -/

/-- SERVICE. -/
def serviceRequest (_ : List Byte) (s : State) : Answer :=
  match s.sv.presentation with
  | .run | .quiet | .still => ⟨.ok, [], enterServicePending s⟩
  | .locked | .servicePending | .serviceReady | .service => refuse .refusedState s

/-- RESUME. -/
def resumeRequest (_ : List Byte) (s : State) : Answer :=
  match s.sv.presentation with
  | .servicePending | .serviceReady => ⟨.ok, [], cancelService s⟩
  | .service => if s.sv.hatchOpen then refuse .refusedState s else ⟨.ok, [], leaveService s⟩
  | .locked | .run | .quiet | .still => refuse .refusedState s

/-- SERVICE_REQ changes: a run of activity may give a press when the run of inactivity before it lasted 50,000 µs or began at the
reset. -/
def serviceReqChange (active : Bool) (s : State) : State :=
  if s.pins.serviceReq = active then s
  else
    let s1 := s.modPins fun p => { p with serviceReq := active }
    s1.modSv fun u =>
      { u with
        reqFrom := s.now
        reqArmed := active && (u.reqSinceReset || decide (u.reqFrom + 50000 ≤ s.now))
        reqSinceReset := false }

/-- SERVICE_PRESS: one press for each run of activity. -/
def servicePress (s : State) : State :=
  if s.pins.serviceReq ∧ s.sv.reqArmed ∧ s.sv.reqFrom + 50000 ≤ s.now then
    press (s.modSv fun u => { u with reqArmed := false })
  else s

/-- LAMP_TOGGLE. -/
def Lamp.toggle (now : Nat) : Lamp → Lamp
  | .off => .off
  | .steady => .steady
  | .blink on next => if next ≤ now then .blink (!on) (next + 500000) else .blink on next

/-! ## The hatch (R169) -/

/-- HATCH_OPENING: HATCH shows open; the hatch opens where its state was CLOSED. -/
def hatchShowsOpen (s : State) : State :=
  let s1 := (s.modPins fun p => { p with hatchOpen := true }).modSv fun u => { u with hatchClosedFrom := none }
  if s.sv.hatchOpen then s1 else openHatch s1

/-- HATCH_SHOWS_CLOSED: the run of closed is timed while the hatch state is OPEN. -/
def hatchShowsClosed (s : State) : State :=
  let s1 := s.modPins fun p => { p with hatchOpen := false }
  if s.pins.hatchOpen ∧ s.sv.hatchOpen then s1.modSv fun u => { u with hatchClosedFrom := some s.now } else s1

/-- HATCH_CLOSED. -/
def hatchCloses (s : State) : State :=
  match s.sv.hatchClosedFrom with
  | none => s
  | some t => if t + 50000 ≤ s.now then s.modSv fun u => { u with hatchOpen := false, hatchClosedFrom := none } else s

/-! ## The CODE input (R179 to R183) -/

/-- CODE_BIT, at multiples of 1000 plus 500 of the counter. -/
def codeBit (high : Bool) (s : State) : State :=
  if s.now % 1000 = 500 then
    s.modSv fun u => { u with hushCode := u.hushCode.takeBit high, releaseCode := u.releaseCode.takeBit high }
  else s

/-- A code's low bits, the rest ignored (R201). -/
def lowBits (code : Byte) (len : Nat) : Byte := BitVec.ofNat 8 (code.toNat % 2 ^ len)

/-- Every bit of a code is equal (R183). -/
def allEqual (bits : List Bool) : Bool := bits.all id || bits.all (!·)

def CodeMode.ofNum : Nat → Option CodeMode
  | 0 => some .manual
  | 1 => some .auto
  | _ => none

/-- A code and its length pass the checks of R183 that look at one code. -/
def codeOk (code : Byte) (len : Nat) : Bool := decide (5 ≤ len) && decide (len ≤ 8) && !allEqual (codeBits code len)

/-- The two codes may stand together (R183). -/
def codesOk (hush : Byte) (hushLen : Nat) (release : Byte) (releaseLen : Nat) : Bool :=
  codeOk hush hushLen && codeOk release releaseLen &&
    !(hushLen == releaseLen && isRotation (codeBits hush hushLen) (codeBits release releaseLen))

/-- Both codes and the mode are set, and both detectors restart. -/
def restartCodes (hush : Byte) (hushLen : Nat) (release : Byte) (releaseLen : Nat) (m : CodeMode) (s : State) : State :=
  let s1 := reportCodes (s.modSv fun u =>
    { u with
      hushCode := Detector.restarted (lowBits hush hushLen) hushLen
      releaseCode := Detector.restarted (lowBits release releaseLen) releaseLen
      codeMode := m })
  match m with
  | .manual => removeReason .hush s1
  | .auto => s1

/-- SET_CODES. -/
def setCodes (b : List Byte) (s : State) : Answer :=
  let hush := b.getD 0 0
  let release := b.getD 2 0
  match CodeMode.ofNum (byteAt b 4) with
  | none => refuse .badArgument s
  | some m =>
    if codesOk hush (byteAt b 1) release (byteAt b 3) then
      ⟨.ok, [], restartCodes hush (byteAt b 1) release (byteAt b 3) m s⟩
    else refuse .badArgument s

end Sys2Proof.Machine
end

