-- ==== Sys2Proof/Machine/TimeEffects.lean ====
section
/-! DEFINITION. The effects behind the Time Base's commands (chapter 1): the answers of SET_TIME and GET_TIME, the starts of wall seconds,
slew holds and the PPS input. -/

namespace Sys2Proof.Machine

/-! ## SET_TIME and GET_TIME (R11, R12) -/

/-- SET_TIME: a valid time is offered as a HOST step. -/
def setTime (p : List Byte) (s : State) : Answer :=
  let t := dateTimeAt p 0
  if validDateTime t then
    let idle := s.pe.engine == .idle || s.pe.engine == .selfTest
    ⟨if idle then .ok else .deferred, [], offerStep ((readingOf t : Int) - s.tb.reading) .host s⟩
  else refuse .badArgument s

/-- GET_TIME. -/
def getTime (_ : List Byte) (s : State) : Answer :=
  let t := s.tb
  ⟨.ok, [.wall (some t.reading), n8 (weekdayOf (today s)), n64 t.counter, flag t.timeSet, n8 t.discipline.num,
    .s32 t.lastOffset, .s32 (some t.slew), .u8 (t.pendingStep.map (·.source.num)), .s64 (t.pendingStep.map (·.delta))], s⟩

/-! ## Wall seconds (R2, R7) -/

/-- The slew a second beginning now works off (R7). -/
def slewOfSecond (slew : Int) : Int := max (-1000) (min slew 1000)

/-- A second begins by carry (R2, R7): `late` microseconds of it have already passed. -/
def TimeBase.beginSecond (t : TimeBase) : TimeBase :=
  let start := (t.second + 1) * secondMicros
  let late := t.reading - start
  let base := start % Config.spanMicros
  let x := slewOfSecond t.slew
  let t := { t with second := base / secondMicros, slew := t.slew - x }
  if x ≤ 0 then { t with reading := base + x.natAbs + late }
  else if late < x.toNat then { t with reading := base, holdEnd := some (t.counter + (x.toNat - late)) }
  else { t with reading := base + (late - x.toNat) }

/-- The carry back to 2000-01-01 clears the record where the time-set flag is set (R30). -/
def calendarWrap (before : State) (s : State) : State :=
  if s.tb.second < before.tb.second ∧ s.tb.timeSet then setRecord (.clearSince 0) s else s

/-- WALL_SECOND_START. A date change is told to the Schedule Unit (R2, R22). -/
def wallSecond (s : State) : State :=
  if s.tb.holdEnd.isNone ∧ (s.tb.second + 1) * secondMicros ≤ s.tb.reading then
    let s1 := calendarWrap s (s.modTb TimeBase.beginSecond)
    if s1.tb.second / 86400 = s.tb.second / 86400 then s1 else evaluateSeason s1
  else s

/-- SLEW_HOLD_END: the field counts on from the end of the hold. -/
def holdOver (s : State) : State :=
  match s.tb.holdEnd with
  | none => s
  | some e =>
    if e ≤ s.now then s.modTb fun t => { t with holdEnd := none, reading := t.reading + (t.counter - e) } else s

/-! ## PPS (R5, R6, R8) -/

/-- The offset of an edge: the field, folded (R5). -/
def foldOffset (field : Nat) : Int := if field % secondMicros < 500000 then field % secondMicros else field % secondMicros - 1000000

/-- An interval lies in window (R5). -/
def inWindow (prev : Option Nat) (now : Nat) : Bool :=
  prev.any fun p => decide (999000 ≤ now - p ∧ now - p ≤ 1001000)

/-- An offset is acted on (R8). -/
def actOnOffset (offset : Int) (s : State) : State :=
  if offset.natAbs ≤ 100000 then
    s.modTb fun t =>
      { t with slew := offset, pendingStep := t.pendingStep.filter fun p => p.source != .pps }
  else offerStep (-offset) .pps (s.modTb fun t => { t with slew := 0 })

/-- The discipline state after an edge, and whether its offset is acted on (table of R5). -/
def edgeRow (d : Discipline) (good : Bool) : Discipline × Bool :=
  match d, good with
  | .freeRun, _ => (.acquiring, false)
  | .acquiring, true => (.locked, true)
  | .acquiring, false => (.acquiring, false)
  | .locked, true => (.locked, true)
  | .locked, false => (.acquiring, false)

/-- PPS_EDGE. -/
def ppsEdge (s : State) : State :=
  let offset := foldOffset (microField s)
  let row := edgeRow s.tb.discipline (inWindow s.tb.prevEdge s.now)
  let lost := s.tb.discipline == .locked && row.1 == .acquiring
  let s1 := s.modTb fun t =>
    { t with
      discipline := row.1
      prevEdge := some t.counter
      lastOffset := some offset
      slew := if lost then 0 else t.slew }
  let s2 := setLevel .ppsLost false s1
  if row.2 then actOnOffset offset s2 else s2

/-- PPS_LOSS_TIMEOUT (R6): more than 3,000,000 µs have passed since the last edge. -/
def ppsLost (s : State) : State :=
  match s.tb.prevEdge with
  | none => s
  | some p =>
    if s.tb.discipline ≠ .freeRun ∧ p + 3000000 < s.now then
      setLevel .ppsLost true (s.modTb fun t => { t with discipline := .freeRun, slew := 0 })
    else s

end Sys2Proof.Machine
end

