-- ==== Sys2Proof/Machine/Requests.lean ====
section
/-! DEFINITION. The request queue at work (R191): a request's own checks and effect by its KIND, the taking of the queue's head, and the
forms of a command's meaning. -/

namespace Sys2Proof.Machine

/-! ## One request -/

/-- A request's own checks and effect, by its KIND (11.2). -/
def answerOf (r : Request) (s : State) : Answer :=
  match r.kind.toNat with
  | 0x01 => identReply r.payload s
  | 0x02 => statusReply r.payload s
  | 0x03 => setTime r.payload s
  | 0x04 => getTime r.payload s
  | 0x05 => setSeason r.payload s
  | 0x06 => getSeason r.payload s
  | 0x07 => setHour r.payload s
  | 0x08 => getHour r.payload s
  | 0x09 => playShow r.payload s
  | 0x0A => stopShow r.payload s
  | 0x0B => getQueue r.payload s
  | 0x0C => setState r.payload s
  | 0x0D => serviceRequest r.payload s
  | 0x0E => resumeRequest r.payload s
  | 0x0F => setCodes r.payload s
  | 0x10 => strikeTest r.payload s
  | 0x11 => selfTest r.payload s
  | 0x12 => getSelfTest r.payload s
  | 0x13 => getBell r.payload s
  | 0x14 => counterSelect r.payload s
  | 0x15 => counterSnapshot r.payload s
  | 0x16 => readLog r.payload s
  | 0x17 => moveAxis r.payload s
  | 0x18 => homeAxis r.payload s
  | 0x19 => clearFault r.payload s
  | 0x1A => getAxis r.payload s
  | 0x1B => getDoor r.payload s
  | 0x1C => storeRead r.payload s
  | 0x1D => storeWrite r.payload s
  | 0x1E => storeErase r.payload s
  | 0x1F => storeResult r.payload s
  | 0x20 => rescan r.payload s
  | 0x21 => walkReport r.payload s
  | 0x22 => noticeMask r.payload s
  | 0x23 => softResetRequest r.payload s
  | _ => refuse .unknownKind s

/-- The kinds that act on the tower or post a show, so that other transitions may fall at the instant of their taking. The others read, or change only
what is read later. -/
def actsOnTower (kind : Byte) : Bool :=
  [0x03, 0x05, 0x07, 0x09, 0x0A, 0x0C, 0x0D, 0x0E, 0x0F, 0x10, 0x11, 0x17, 0x18, 0x19, 0x20].contains kind.toNat

/-- A status that carries the request out (R192). -/
def Status.passes : Status → Bool
  | .ok | .accepted | .deferred => true
  | .busy | .busyPerforming | .refusedState | .locked | .badArgument | .badLength | .unknownKind | .queueFull | .notPresent => false

/-- A taken request is judged in the order of R191: a KIND of no request is UNKNOWN_KIND, a LEN that does not fit is BAD_LENGTH, and the
rest are the request's own checks and effect. -/
def judgeRequest (r : Request) (s : State) : Answer :=
  if (requiredLength r.kind r.payload).isNone then refuse .unknownKind s
  else if lengthFits r.kind r.payload then answerOf r s
  else refuse .badLength s

/-- A reply is formed and placed (R191, R192); where the request acted, what follows at this instant; and then the arbiter (R194). -/
def reply (r : Request) (a : Answer) : State :=
  let s := placeReply ⟨replyKind r.kind, r.tag, a.status, a.fields⟩ a.state
  if a.status.passes && actsOnTower r.kind then conclude s else arbitrate s

/-- The head of the request queue is taken (R191): it leaves the queue, is judged and carried out, and its reply is formed. -/
def take (r : Request) (s : State) : State := reply r (judgeRequest r (popRequest s))

/-! ## The request queue -/

/-- Heads are taken one after another while fewer than 2 replies are queued (R191). -/
def serveFor : Nat → State → State
  | 0, s => s
  | n + 1, s =>
    match s.lp.requests with
    | [] => s
    | r :: _ => if s.lp.replies.length < 2 then serveFor n (take r s) else s

/-- Every request that may be taken at this instant is taken (R191). -/
def serve (s : State) : State := serveFor s.lp.requests.length s

/-! ## The forms of a command's meaning -/

/-- The end of an event: what follows at its instant, the arbiter, and the requests that may now be taken. -/
def finish (s : State) : State := serve (conclude s)

/-- An event at `dt` microseconds after the command before: its effect, and what follows from it. -/
def event (dt : Nat) (effect : State → State) (s : State) : Host.Outcome State Fault Refusal :=
  .next (finish (effect (elapse dt s)))

/-- An event of the receiver, which acts on nothing but the request queue. -/
def linkEvent (dt : Nat) (effect : State → State) (s : State) : Host.Outcome State Fault Refusal :=
  .next (serve (arbitrate (effect (elapse dt s))))

/-- A request of the host: its frame is complete at this instant (R191; log entry 2). -/
def hostRequest (dt : Nat) (kind tag : Byte) (payload : List Byte) (s : State) : Host.Outcome State Fault Refusal :=
  linkEvent dt (receive ⟨kind, tag, payload⟩) s

end Sys2Proof.Machine
end

