-- ==== Sys2Proof/Machine/LinkCommands.lean ====
section
/-! DEFINITION. The meanings of the resets and of the Link Port's own commands (chapter 10): frames, the transmitter, IDENT, GET_STATUS,
the notice mask and SOFT_RESET. -/

namespace Sys2Proof.Machine

/-! ## Resets (R13, R40, R61, R89, R111, R133, R156, R171, R187, R200) -/

/-- POWER_ON_RESET. -/
def execPowerOnReset (baud1 baud0 : Bool) (s : State) : Host.Outcome State Fault Refusal :=
  .next (powerOn baud1 baud0 s)

def execSoftReset (dt : Nat) (tag : Byte) (payload : List Byte) (s : State) : Host.Outcome State Fault Refusal :=
  hostRequest dt 0x23 tag payload s

/-- SOFT_RESET_INSTANT (R200): the last byte of the SOFT_RESET reply has been sent. -/
def execSoftResetInstant (dt : Nat) (s : State) : Host.Outcome State Fault Refusal :=
  event dt (fun s => if sendingSoftResetReply s then softReset s else s) s

/-! ## Frames (R189 to R191) -/

def execFrameReceived (dt : Nat) (s : State) : Host.Outcome State Fault Refusal :=
  linkEvent dt frameReceived s

def execBadFrame (dt : Nat) (framing : Bool) (s : State) : Host.Outcome State Fault Refusal :=
  linkEvent dt (badFrame framing) s

def execFrameGapTimeout (dt : Nat) (s : State) : Host.Outcome State Fault Refusal :=
  linkEvent dt frameGap s

def execByteReceived (dt : Nat) (byte : Byte) (s : State) : Host.Outcome State Fault Refusal :=
  linkEvent dt (byteReceived byte) s

/-- UNKNOWN_KIND (R191, step 1); a KIND of the catalogue is not this command's, and passes only time. -/
def execUnknownKind (dt : Nat) (kind tag : Byte) (payload : List Byte) (s : State) :
    Host.Outcome State Fault Refusal :=
  if (requiredLength kind payload).isSome then linkEvent dt id s
  else hostRequest dt kind tag payload s

def execTransmitEnd (dt : Nat) (s : State) : Host.Outcome State Fault Refusal :=
  event dt transmitEnd s

/-! ## IDENT and GET_STATUS (R198, R199) -/

def execIdent (dt : Nat) (tag : Byte) (payload : List Byte) (s : State) : Host.Outcome State Fault Refusal :=
  hostRequest dt 0x01 tag payload s

def execGetStatus (dt : Nat) (tag : Byte) (payload : List Byte) (s : State) : Host.Outcome State Fault Refusal :=
  hostRequest dt 0x02 tag payload s

/-! ## SET_NOTICE_MASK (R196) -/

def execSetNoticeMask (dt : Nat) (tag : Byte) (payload : List Byte) (s : State) : Host.Outcome State Fault Refusal :=
  hostRequest dt 0x22 tag payload s

end Sys2Proof.Machine
end

