-- ==== Sys2Proof/Machine/MotionCommands.lean ====
section
/-! DEFINITION. The meanings of the Motion Unit's commands (chapters 7 and 8): host moves and homing, CLEAR_FAULT, the axis and door
records, counts, switches, comparators, and the timers of axes and doors. -/

namespace Sys2Proof.Machine

/-! ## MOVE_AXIS and HOME_AXIS (R144, R145) -/

def execMoveAxis (dt : Nat) (tag : Byte) (payload : List Byte) (s : State) : Host.Outcome State Fault Refusal :=
  hostRequest dt 0x17 tag payload s

def execHomeAxis (dt : Nat) (tag : Byte) (payload : List Byte) (s : State) : Host.Outcome State Fault Refusal :=
  hostRequest dt 0x18 tag payload s

/-! ## CLEAR_FAULT (R118, R151, R162) -/

/-- CLEAR_FAULT with class BELL. -/
def execClearFaultBell (dt : Nat) (tag : Byte) (payload : List Byte) (s : State) : Host.Outcome State Fault Refusal :=
  hostRequest dt 0x19 tag payload s

/-- CLEAR_FAULT with class AXIS. -/
def execClearFaultAxis (dt : Nat) (tag : Byte) (payload : List Byte) (s : State) : Host.Outcome State Fault Refusal :=
  hostRequest dt 0x19 tag payload s

/-! ## GET_AXIS and GET_DOOR (R155, R171) -/

def execGetAxis (dt : Nat) (tag : Byte) (payload : List Byte) (s : State) : Host.Outcome State Fault Refusal :=
  hostRequest dt 0x1A tag payload s

def execGetDoor (dt : Nat) (tag : Byte) (payload : List Byte) (s : State) : Host.Outcome State Fault Refusal :=
  hostRequest dt 0x1B tag payload s

/-! ## Counts, reversals, dwells (R135, R136, R142) -/

/-- AXIS_COUNT. -/
def execAxisCount (dt : Nat) (a : Axis) (s : State) : Host.Outcome State Fault Refusal :=
  event dt (countAxis a) s

def execReversalEnd (dt : Nat) (a : Axis) (s : State) : Host.Outcome State Fault Refusal :=
  event dt (reversalEnd a) s

def execDwellEnd (dt : Nat) (a : Axis) (s : State) : Host.Outcome State Fault Refusal :=
  event dt (dwellOver a) s

/-! ## Switches (R140, R149, R160, R161) -/

/-- HOME_SWITCH_CHANGE. -/
def execHomeSwitchChange (dt : Nat) (a : Axis) (active : Bool) (s : State) : Host.Outcome State Fault Refusal :=
  event dt (homeSwitchChange a active) s

/-- FAR_SWITCH_ACTIVE, and the switch's release, which only the pin's level keeps. -/
def execFarSwitchActive (dt : Nat) (a : Axis) (active : Bool) (s : State) : Host.Outcome State Fault Refusal :=
  event dt (farSwitchChange a active) s

def execDoorSwitchChange (dt : Nat) (d : Axis) (sw : DoorSwitch) (active : Bool) (s : State) :
    Host.Outcome State Fault Refusal :=
  event dt (doorSwitchChange d sw active) s

/-! ## The current watch (R149, R161) -/

def execAlimChange (dt : Nat) (a : Axis) (active : Bool) (s : State) : Host.Outcome State Fault Refusal :=
  event dt (alimChange a active) s

def execAxisOvercurrent (dt : Nat) (a : Axis) (s : State) : Host.Outcome State Fault Refusal :=
  event dt (axisOvercurrent a) s

def execDoorOvercurrent (dt : Nat) (d : Axis) (s : State) : Host.Outcome State Fault Refusal :=
  event dt (doorOvercurrent d) s

/-! ## Timers of axes (R148, R150) -/

def execAxisStall (dt : Nat) (a : Axis) (s : State) : Host.Outcome State Fault Refusal :=
  event dt (axisStall a) s

def execTravelTimeout (dt : Nat) (a : Axis) (s : State) : Host.Outcome State Fault Refusal :=
  event dt (travelTimeout a) s

def execAxisOffTimeEnd (dt : Nat) (a : Axis) (s : State) : Host.Outcome State Fault Refusal :=
  event dt (axisOffTimeEnd a) s

/-! ## Timers of doors (R161) -/

def execDoorTimeout (dt : Nat) (d : Axis) (s : State) : Host.Outcome State Fault Refusal :=
  event dt (doorTimeout d) s

def execSwitchLost (dt : Nat) (d : Axis) (s : State) : Host.Outcome State Fault Refusal :=
  event dt (switchLost d) s

def execDoorOffTimeEnd (dt : Nat) (d : Axis) (s : State) : Host.Outcome State Fault Refusal :=
  event dt (doorOffTimeEnd d) s

end Sys2Proof.Machine
end

