-- ==== Sys2Proof/Machine/PerformanceCommands.lean ====
section
/-! DEFINITION. The meanings of the Performance Engine's commands (chapter 4): the instants of a performance, its timers, prefetch, the
self-test and the log. -/

namespace Sys2Proof.Machine

/-! ## The instants of a performance (R65, R15, R69, R74, R77, R80) -/

/-- DUE_COUNT_REACHED. -/
def execDueCountReached (dt : Nat) (s : State) : Host.Outcome State Fault Refusal :=
  event dt (fun s => if mayStart s then startPlaying s else s) s

def execPreparationLimit (dt : Nat) (s : State) : Host.Outcome State Fault Refusal :=
  event dt preparationLimit s

def execDivisionInstant (dt : Nat) (s : State) : Host.Outcome State Fault Refusal :=
  event dt divisionInstant s

def execWaitLimitExpiry (dt : Nat) (s : State) : Host.Outcome State Fault Refusal :=
  event dt waitLimitExpiry s

def execStallTimeout (dt : Nat) (s : State) : Host.Outcome State Fault Refusal :=
  event dt stallTimeout s

def execCodaTimeout (dt : Nat) (s : State) : Host.Outcome State Fault Refusal :=
  event dt codaTimeout s

def execSupplyTimerExpiry (dt : Nat) (s : State) : Host.Outcome State Fault Refusal :=
  event dt supplyTimerExpiry s

def execThermalTimerExpiry (dt : Nat) (s : State) : Host.Outcome State Fault Refusal :=
  event dt thermalTimerExpiry s

/-! ## Prefetch (R42, R72, R74) -/

def execPrefetchReadEnd (dt : Nat) (data : List Byte) (s : State) : Host.Outcome State Fault Refusal :=
  event dt (prefetchReadEnd data) s

/-! ## The self-test (R86 to R88) -/

def execSelfTest (dt : Nat) (tag : Byte) (payload : List Byte) (s : State) : Host.Outcome State Fault Refusal :=
  hostRequest dt 0x11 tag payload s

def execGetSelfTest (dt : Nat) (tag : Byte) (payload : List Byte) (s : State) : Host.Outcome State Fault Refusal :=
  hostRequest dt 0x12 tag payload s

def execSelfTestHandoff (dt : Nat) (s : State) : Host.Outcome State Fault Refusal :=
  event dt selfTestHandoff s

/-! ## The log (R84, 11.2) -/

def execReadLog (dt : Nat) (tag : Byte) (payload : List Byte) (s : State) : Host.Outcome State Fault Refusal :=
  hostRequest dt 0x16 tag payload s

end Sys2Proof.Machine
end

