-- ==== Sys2Proof/Machine/ScheduleCommands.lean ====
section
/-! DEFINITION. The meanings of the Schedule Unit's commands (chapter 2): the tables, the show queue, and the triggers. -/

namespace Sys2Proof.Machine

/-! ## The tables (R23, R24) -/

def execSetSeason (dt : Nat) (tag : Byte) (payload : List Byte) (s : State) : Host.Outcome State Fault Refusal :=
  hostRequest dt 0x05 tag payload s

def execGetSeason (dt : Nat) (tag : Byte) (payload : List Byte) (s : State) : Host.Outcome State Fault Refusal :=
  hostRequest dt 0x06 tag payload s

def execSetHour (dt : Nat) (tag : Byte) (payload : List Byte) (s : State) : Host.Outcome State Fault Refusal :=
  hostRequest dt 0x07 tag payload s

def execGetHour (dt : Nat) (tag : Byte) (payload : List Byte) (s : State) : Host.Outcome State Fault Refusal :=
  hostRequest dt 0x08 tag payload s

/-! ## PLAY_SHOW, STOP_SHOW, GET_QUEUE (R36, R79, R37) -/

def execPlayShow (dt : Nat) (tag : Byte) (payload : List Byte) (s : State) : Host.Outcome State Fault Refusal :=
  hostRequest dt 0x09 tag payload s

def execStopShow (dt : Nat) (tag : Byte) (payload : List Byte) (s : State) : Host.Outcome State Fault Refusal :=
  hostRequest dt 0x0A tag payload s

def execGetQueue (dt : Nat) (tag : Byte) (payload : List Byte) (s : State) : Host.Outcome State Fault Refusal :=
  hostRequest dt 0x0B tag payload s

/-! ## Triggers and held heads (R27, R33) -/

def execNextTriggerHandled (dt : Nat) (s : State) : Host.Outcome State Fault Refusal :=
  event dt nextTriggerHandled s

/-- HELD_LINK_HEAD_DUE. -/
def execHeldLinkHeadDue (dt : Nat) (s : State) : Host.Outcome State Fault Refusal :=
  event dt (fun s => if heldHeadDue s then examineQueue s else s) s

end Sys2Proof.Machine
end

