-- ==== Sys2Proof/Machine/StoreCommands.lean ====
section
/-! DEFINITION. The meanings of the Library Unit's commands (chapter 3): store requests, RESCAN, GET_WALK_REPORT, and the ends and
timeouts of transfers. -/

namespace Sys2Proof.Machine

/-! ## Requests (R54 to R58) -/

def execStoreRead (dt : Nat) (tag : Byte) (payload : List Byte) (s : State) : Host.Outcome State Fault Refusal :=
  hostRequest dt 0x1C tag payload s

def execStoreWrite (dt : Nat) (tag : Byte) (payload : List Byte) (s : State) : Host.Outcome State Fault Refusal :=
  hostRequest dt 0x1D tag payload s

def execStoreErase (dt : Nat) (tag : Byte) (payload : List Byte) (s : State) : Host.Outcome State Fault Refusal :=
  hostRequest dt 0x1E tag payload s

def execStoreResult (dt : Nat) (tag : Byte) (payload : List Byte) (s : State) : Host.Outcome State Fault Refusal :=
  hostRequest dt 0x1F tag payload s

def execRescan (dt : Nat) (tag : Byte) (payload : List Byte) (s : State) : Host.Outcome State Fault Refusal :=
  hostRequest dt 0x20 tag payload s

def execGetWalkReport (dt : Nat) (tag : Byte) (payload : List Byte) (s : State) : Host.Outcome State Fault Refusal :=
  hostRequest dt 0x21 tag payload s

/-! ## Transfers (R41 to R46, R55 to R57) -/

def execWalkTransferEnd (dt : Nat) (data : List Byte) (s : State) : Host.Outcome State Fault Refusal :=
  event dt (walkTransferEnd data) s

def execWalkStatusTimeout (dt : Nat) (s : State) : Host.Outcome State Fault Refusal :=
  event dt walkStatusTimeout s

def execStoreTransferEnd (dt : Nat) (data : List Byte) (s : State) : Host.Outcome State Fault Refusal :=
  event dt (storeTransferEnd data) s

def execStoreBusyTimeout (dt : Nat) (s : State) : Host.Outcome State Fault Refusal :=
  event dt storeBusyTimeout s

/-- WRITE_TIMEOUT (R56). -/
def execWriteTimeout (dt : Nat) (s : State) : Host.Outcome State Fault Refusal :=
  event dt (changeTimeout .write 10000) s

/-- ERASE_TIMEOUT (R57). -/
def execEraseTimeout (dt : Nat) (s : State) : Host.Outcome State Fault Refusal :=
  event dt (changeTimeout .erase 1000000) s

end Sys2Proof.Machine
end

