-- ==== Sys2Proof/Machine/StrikeCommands.lean ====
section
/-! DEFINITION. The meanings of the Strike Unit's commands (chapters 5 and 6): STRIKE_TEST, the bell and counter requests, the instants of
the strike queue and of the channels, and the bells' inputs. -/

namespace Sys2Proof.Machine

/-! ## Requests (R85, R118, R129 to R131) -/

def execStrikeTest (dt : Nat) (tag : Byte) (payload : List Byte) (s : State) : Host.Outcome State Fault Refusal :=
  hostRequest dt 0x10 tag payload s

def execGetBell (dt : Nat) (tag : Byte) (payload : List Byte) (s : State) : Host.Outcome State Fault Refusal :=
  hostRequest dt 0x13 tag payload s

def execCounterSelect (dt : Nat) (tag : Byte) (payload : List Byte) (s : State) : Host.Outcome State Fault Refusal :=
  hostRequest dt 0x14 tag payload s

def execCounterSnapshot (dt : Nat) (tag : Byte) (payload : List Byte) (s : State) : Host.Outcome State Fault Refusal :=
  hostRequest dt 0x15 tag payload s

/-! ## The strike queue's instants (R94) -/

def execStrikeHeadDue (dt : Nat) (s : State) : Host.Outcome State Fault Refusal :=
  event dt strikeHeadDue s

def execSlackExpiry (dt : Nat) (s : State) : Host.Outcome State Fault Refusal :=
  event dt slackExpiry s

/-! ## The pulse (R100, R102, R112 to R116) -/

def execPulseEnd (dt : Nat) (b : Bell) (s : State) : Host.Outcome State Fault Refusal :=
  event dt (pulseEnd b) s

def execRecoveryEnd (dt : Nat) (b : Bell) (s : State) : Host.Outcome State Fault Refusal :=
  event dt (recoveryEnd b) s

def execHlimChange (dt : Nat) (b : Bell) (active : Bool) (s : State) : Host.Outcome State Fault Refusal :=
  event dt (hlimChange b active) s

def execHprsActive (dt : Nat) (b : Bell) (active : Bool) (s : State) : Host.Outcome State Fault Refusal :=
  event dt (hprsChange b active) s

def execOverCurrent (dt : Nat) (b : Bell) (s : State) : Host.Outcome State Fault Refusal :=
  event dt (overCurrent b) s

def execPresenceDeadline (dt : Nat) (b : Bell) (s : State) : Host.Outcome State Fault Refusal :=
  event dt (presenceDeadline b) s

def execBellOffTimeEnd (dt : Nat) (b : Bell) (s : State) : Host.Outcome State Fault Refusal :=
  event dt (bellOffTimeEnd b) s

/-! ## Heat, dampers, verification (R121, R124, R126) -/

def execDecayTick (dt : Nat) (s : State) : Host.Outcome State Fault Refusal :=
  event dt decayTick s

def execDampEnd (dt : Nat) (b : Bell) (s : State) : Host.Outcome State Fault Refusal :=
  event dt (damperEnd b) s

def execPickupEdge (dt : Nat) (b : Bell) (s : State) : Host.Outcome State Fault Refusal :=
  event dt (pickupEdge b) s

def execVerifyWindowEnd (dt : Nat) (b : Bell) (s : State) : Host.Outcome State Fault Refusal :=
  event dt (verifyWindowEnd b) s

end Sys2Proof.Machine
end

