-- ==== Sys2Proof/Machine/SupervisionCommands.lean ====
section
/-! DEFINITION. The meanings of the Supervision Unit's commands and of the service sequence (chapters 8 and 9): SET_STATE, SERVICE, RESUME,
SET_CODES, the service button, the lamp, the hatch, the supply and die monitors and the CODE input. -/

namespace Sys2Proof.Machine

/-! ## SET_STATE (R185) -/

def execSetState (dt : Nat) (tag : Byte) (payload : List Byte) (s : State) : Host.Outcome State Fault Refusal :=
  hostRequest dt 0x0C tag payload s

/-! ## SERVICE, RESUME and the button (R167, R170) -/

def execService (dt : Nat) (tag : Byte) (payload : List Byte) (s : State) : Host.Outcome State Fault Refusal :=
  hostRequest dt 0x0D tag payload s

def execResume (dt : Nat) (tag : Byte) (payload : List Byte) (s : State) : Host.Outcome State Fault Refusal :=
  hostRequest dt 0x0E tag payload s

def execServiceReqChange (dt : Nat) (active : Bool) (s : State) : Host.Outcome State Fault Refusal :=
  event dt (serviceReqChange active) s

def execServicePress (dt : Nat) (s : State) : Host.Outcome State Fault Refusal :=
  event dt servicePress s

def execLampToggle (dt : Nat) (s : State) : Host.Outcome State Fault Refusal :=
  event dt (fun s => setLamp (s.sv.lamp.toggle s.now) s) s

/-! ## The hatch (R169) -/

def execHatchOpening (dt : Nat) (s : State) : Host.Outcome State Fault Refusal :=
  event dt hatchShowsOpen s

def execHatchShowsClosed (dt : Nat) (s : State) : Host.Outcome State Fault Refusal :=
  event dt hatchShowsClosed s

def execHatchClosed (dt : Nat) (s : State) : Host.Outcome State Fault Refusal :=
  event dt hatchCloses s

/-! ## Monitors (R176 to R178) -/

/-- SUPPLY_SAMPLE, at multiples of 1000 of the counter. -/
def execSupplySample (dt : Nat) (vhsense : Nat) (s : State) : Host.Outcome State Fault Refusal :=
  event dt (fun s => if s.now % 1000 = 0 then takeSample (sampleOf vhsense) s else s) s

/-- DIE_READING, at multiples of 10,000 of the counter. -/
def execDieReading (dt : Nat) (celsius : Int) (s : State) : Host.Outcome State Fault Refusal :=
  event dt (fun s => if s.now % 10000 = 0 then takeDieReading (clampDie celsius) s else s) s

/-! ## The CODE input (R179 to R183) -/

def execCodeBit (dt : Nat) (high : Bool) (s : State) : Host.Outcome State Fault Refusal :=
  event dt (codeBit high) s

/-- CODE_BLOCK_END: both detectors' blocks end at the same bit. -/
def execCodeBlockEnd (dt : Nat) (s : State) : Host.Outcome State Fault Refusal :=
  event dt (fun s => if s.sv.hushCode.blockOver || s.sv.releaseCode.blockOver then endBlocks s else s) s

def execSetCodes (dt : Nat) (tag : Byte) (payload : List Byte) (s : State) : Host.Outcome State Fault Refusal :=
  hostRequest dt 0x0F tag payload s

end Sys2Proof.Machine
end

