-- ==== Sys2Proof/Machine/TimeCommands.lean ====
section
/-! DEFINITION. The meanings of the Time Base's commands (chapter 1): SET_TIME, GET_TIME, the starts of wall seconds, slew holds and the
PPS input. -/

namespace Sys2Proof.Machine

/-! ## SET_TIME and GET_TIME (R11, R12) -/

def execSetTime (dt : Nat) (tag : Byte) (payload : List Byte) (s : State) : Host.Outcome State Fault Refusal :=
  hostRequest dt 0x03 tag payload s

def execGetTime (dt : Nat) (tag : Byte) (payload : List Byte) (s : State) : Host.Outcome State Fault Refusal :=
  hostRequest dt 0x04 tag payload s

/-! ## Wall seconds (R2, R7) -/

def execWallSecondStart (dt : Nat) (s : State) : Host.Outcome State Fault Refusal :=
  event dt wallSecond s

def execSlewHoldEnd (dt : Nat) (s : State) : Host.Outcome State Fault Refusal :=
  event dt holdOver s

/-! ## PPS (R5, R6, R8) -/

def execPpsEdge (dt : Nat) (s : State) : Host.Outcome State Fault Refusal :=
  event dt ppsEdge s

def execPpsLossTimeout (dt : Nat) (s : State) : Host.Outcome State Fault Refusal :=
  event dt ppsLost s

end Sys2Proof.Machine
end

