-- ==== Sys2Proof/Machine/Dispatch.lean ====
section
/-! DEFINITION. One arm per command, each one call of its meaning. -/

namespace Sys2Proof.Machine

def exec (i : Instr) (s : State) : Host.Outcome State Fault Refusal :=
  match i with
  | .powerOnReset baud1 baud0 => Sys2Proof.Machine.execPowerOnReset baud1 baud0 s
  | .softReset dt tag payload => Sys2Proof.Machine.execSoftReset dt tag payload s
  | .softResetInstant dt => Sys2Proof.Machine.execSoftResetInstant dt s
  | .frameReceived dt => Sys2Proof.Machine.execFrameReceived dt s
  | .badFrame dt framing => Sys2Proof.Machine.execBadFrame dt framing s
  | .frameGapTimeout dt => Sys2Proof.Machine.execFrameGapTimeout dt s
  | .unknownKind dt kind tag payload => Sys2Proof.Machine.execUnknownKind dt kind tag payload s
  | .ident dt tag payload => Sys2Proof.Machine.execIdent dt tag payload s
  | .getStatus dt tag payload => Sys2Proof.Machine.execGetStatus dt tag payload s
  | .setTime dt tag payload => Sys2Proof.Machine.execSetTime dt tag payload s
  | .getTime dt tag payload => Sys2Proof.Machine.execGetTime dt tag payload s
  | .setSeason dt tag payload => Sys2Proof.Machine.execSetSeason dt tag payload s
  | .getSeason dt tag payload => Sys2Proof.Machine.execGetSeason dt tag payload s
  | .setHour dt tag payload => Sys2Proof.Machine.execSetHour dt tag payload s
  | .getHour dt tag payload => Sys2Proof.Machine.execGetHour dt tag payload s
  | .playShow dt tag payload => Sys2Proof.Machine.execPlayShow dt tag payload s
  | .stopShow dt tag payload => Sys2Proof.Machine.execStopShow dt tag payload s
  | .getQueue dt tag payload => Sys2Proof.Machine.execGetQueue dt tag payload s
  | .setState dt tag payload => Sys2Proof.Machine.execSetState dt tag payload s
  | .service dt tag payload => Sys2Proof.Machine.execService dt tag payload s
  | .resume dt tag payload => Sys2Proof.Machine.execResume dt tag payload s
  | .setCodes dt tag payload => Sys2Proof.Machine.execSetCodes dt tag payload s
  | .strikeTest dt tag payload => Sys2Proof.Machine.execStrikeTest dt tag payload s
  | .selfTest dt tag payload => Sys2Proof.Machine.execSelfTest dt tag payload s
  | .getSelfTest dt tag payload => Sys2Proof.Machine.execGetSelfTest dt tag payload s
  | .getBell dt tag payload => Sys2Proof.Machine.execGetBell dt tag payload s
  | .counterSelect dt tag payload => Sys2Proof.Machine.execCounterSelect dt tag payload s
  | .counterSnapshot dt tag payload => Sys2Proof.Machine.execCounterSnapshot dt tag payload s
  | .readLog dt tag payload => Sys2Proof.Machine.execReadLog dt tag payload s
  | .moveAxis dt tag payload => Sys2Proof.Machine.execMoveAxis dt tag payload s
  | .homeAxis dt tag payload => Sys2Proof.Machine.execHomeAxis dt tag payload s
  | .clearFaultBell dt tag payload => Sys2Proof.Machine.execClearFaultBell dt tag payload s
  | .clearFaultAxis dt tag payload => Sys2Proof.Machine.execClearFaultAxis dt tag payload s
  | .getAxis dt tag payload => Sys2Proof.Machine.execGetAxis dt tag payload s
  | .getDoor dt tag payload => Sys2Proof.Machine.execGetDoor dt tag payload s
  | .storeRead dt tag payload => Sys2Proof.Machine.execStoreRead dt tag payload s
  | .storeWrite dt tag payload => Sys2Proof.Machine.execStoreWrite dt tag payload s
  | .storeErase dt tag payload => Sys2Proof.Machine.execStoreErase dt tag payload s
  | .storeResult dt tag payload => Sys2Proof.Machine.execStoreResult dt tag payload s
  | .rescan dt tag payload => Sys2Proof.Machine.execRescan dt tag payload s
  | .getWalkReport dt tag payload => Sys2Proof.Machine.execGetWalkReport dt tag payload s
  | .setNoticeMask dt tag payload => Sys2Proof.Machine.execSetNoticeMask dt tag payload s
  | .transmitEnd dt => Sys2Proof.Machine.execTransmitEnd dt s
  | .wallSecondStart dt => Sys2Proof.Machine.execWallSecondStart dt s
  | .slewHoldEnd dt => Sys2Proof.Machine.execSlewHoldEnd dt s
  | .ppsEdge dt => Sys2Proof.Machine.execPpsEdge dt s
  | .ppsLossTimeout dt => Sys2Proof.Machine.execPpsLossTimeout dt s
  | .nextTriggerHandled dt => Sys2Proof.Machine.execNextTriggerHandled dt s
  | .heldLinkHeadDue dt => Sys2Proof.Machine.execHeldLinkHeadDue dt s
  | .dueCountReached dt => Sys2Proof.Machine.execDueCountReached dt s
  | .preparationLimit dt => Sys2Proof.Machine.execPreparationLimit dt s
  | .divisionInstant dt => Sys2Proof.Machine.execDivisionInstant dt s
  | .waitLimitExpiry dt => Sys2Proof.Machine.execWaitLimitExpiry dt s
  | .prefetchReadEnd dt data => Sys2Proof.Machine.execPrefetchReadEnd dt data s
  | .stallTimeout dt => Sys2Proof.Machine.execStallTimeout dt s
  | .codaTimeout dt => Sys2Proof.Machine.execCodaTimeout dt s
  | .supplyTimerExpiry dt => Sys2Proof.Machine.execSupplyTimerExpiry dt s
  | .thermalTimerExpiry dt => Sys2Proof.Machine.execThermalTimerExpiry dt s
  | .selfTestHandoff dt => Sys2Proof.Machine.execSelfTestHandoff dt s
  | .walkTransferEnd dt data => Sys2Proof.Machine.execWalkTransferEnd dt data s
  | .walkStatusTimeout dt => Sys2Proof.Machine.execWalkStatusTimeout dt s
  | .storeTransferEnd dt data => Sys2Proof.Machine.execStoreTransferEnd dt data s
  | .storeBusyTimeout dt => Sys2Proof.Machine.execStoreBusyTimeout dt s
  | .writeTimeout dt => Sys2Proof.Machine.execWriteTimeout dt s
  | .eraseTimeout dt => Sys2Proof.Machine.execEraseTimeout dt s
  | .strikeHeadDue dt => Sys2Proof.Machine.execStrikeHeadDue dt s
  | .slackExpiry dt => Sys2Proof.Machine.execSlackExpiry dt s
  | .pulseEnd dt b => Sys2Proof.Machine.execPulseEnd dt b s
  | .recoveryEnd dt b => Sys2Proof.Machine.execRecoveryEnd dt b s
  | .hlimChange dt b active => Sys2Proof.Machine.execHlimChange dt b active s
  | .hprsActive dt b active => Sys2Proof.Machine.execHprsActive dt b active s
  | .overCurrent dt b => Sys2Proof.Machine.execOverCurrent dt b s
  | .presenceDeadline dt b => Sys2Proof.Machine.execPresenceDeadline dt b s
  | .bellOffTimeEnd dt b => Sys2Proof.Machine.execBellOffTimeEnd dt b s
  | .decayTick dt => Sys2Proof.Machine.execDecayTick dt s
  | .dampEnd dt b => Sys2Proof.Machine.execDampEnd dt b s
  | .pickupEdge dt b => Sys2Proof.Machine.execPickupEdge dt b s
  | .verifyWindowEnd dt b => Sys2Proof.Machine.execVerifyWindowEnd dt b s
  | .axisCount dt a => Sys2Proof.Machine.execAxisCount dt a s
  | .reversalEnd dt a => Sys2Proof.Machine.execReversalEnd dt a s
  | .dwellEnd dt a => Sys2Proof.Machine.execDwellEnd dt a s
  | .homeSwitchChange dt a active => Sys2Proof.Machine.execHomeSwitchChange dt a active s
  | .farSwitchActive dt a active => Sys2Proof.Machine.execFarSwitchActive dt a active s
  | .alimChange dt a active => Sys2Proof.Machine.execAlimChange dt a active s
  | .axisStall dt a => Sys2Proof.Machine.execAxisStall dt a s
  | .travelTimeout dt a => Sys2Proof.Machine.execTravelTimeout dt a s
  | .axisOvercurrent dt a => Sys2Proof.Machine.execAxisOvercurrent dt a s
  | .axisOffTimeEnd dt a => Sys2Proof.Machine.execAxisOffTimeEnd dt a s
  | .doorSwitchChange dt d sw active => Sys2Proof.Machine.execDoorSwitchChange dt d sw active s
  | .doorTimeout dt d => Sys2Proof.Machine.execDoorTimeout dt d s
  | .doorOvercurrent dt d => Sys2Proof.Machine.execDoorOvercurrent dt d s
  | .switchLost dt d => Sys2Proof.Machine.execSwitchLost dt d s
  | .doorOffTimeEnd dt d => Sys2Proof.Machine.execDoorOffTimeEnd dt d s
  | .servicePress dt => Sys2Proof.Machine.execServicePress dt s
  | .lampToggle dt => Sys2Proof.Machine.execLampToggle dt s
  | .hatchOpening dt => Sys2Proof.Machine.execHatchOpening dt s
  | .hatchClosed dt => Sys2Proof.Machine.execHatchClosed dt s
  | .supplySample dt vhsense => Sys2Proof.Machine.execSupplySample dt vhsense s
  | .dieReading dt celsius => Sys2Proof.Machine.execDieReading dt celsius s
  | .codeBlockEnd dt => Sys2Proof.Machine.execCodeBlockEnd dt s
  | .codeBit dt high => Sys2Proof.Machine.execCodeBit dt high s
  | .byteReceived dt byte => Sys2Proof.Machine.execByteReceived dt byte s
  | .serviceReqChange dt active => Sys2Proof.Machine.execServiceReqChange dt active s
  | .hatchShowsClosed dt => Sys2Proof.Machine.execHatchShowsClosed dt s

end Sys2Proof.Machine
end

