-- ==== Sys2Proof/Machine/Step.lean ====
section
/-! DEFINITION. One step of the block: the command at the front of the queue is carried out; on an empty queue one microsecond passes. -/

namespace Sys2Proof.Machine

/-- The part with the commands that wait replaced. -/
def State.withPending (s : State) (l : List Instr) : State := { s with pending := l }

/-- One step. The command at the front is carried out with the rest of the queue waiting; where none waits, one microsecond passes
(R1; DESIGN CHOICE, log entry 1). -/
def step (s : State) : Host.Outcome State Fault Refusal :=
  match s.pending with
  | [] => .next (elapse 1 s)
  | c :: rest => exec c (s.withPending rest)

/-- The table gives no row any bits, so no word spells a command and the state is unchanged. -/
def State.withFetchWord (s : State) (_nbits _w : Nat) : State := s

end Sys2Proof.Machine
end

