-- ==== Sys2Proof/Safety.lean ====
section
/-! DEFINITION. What counts as a safe state, in the terms the claims use: no power while a halt reason stands (R174) but for the pulses
that R110 may let outlast a walk which ends NONE, no motor of a guarded figure against a door that is not OPEN (R164), no motion while the part
is LOCKED (R52), the energized-current sum and the heat estimates within what the profile allows (R98, R106), and the bounds of the queues
(R35, R91, R92, R191, R192). -/

namespace Sys2Proof.Machine

/-- No damper or motor is energized (R174). -/
def DampersAndMotorsOff (s : State) : Prop :=
  (∀ b : Bell, damperOut s b = false) ∧ ∀ (a : Axis) (dir : Direction), axisGate s a dir = false

/-- No hammer coil, damper or motor is energized (R174). -/
def Deenergized (s : State) : Prop := (∀ b : Bell, hammerGate s b = false) ∧ DampersAndMotorsOff s

/-- An axis is driven in these states alone. -/
def AxisState.drives : AxisState → Bool
  | .moving | .homing => true
  | .unreferenced | .idle | .dwelling | .waitDoor | .faultOff | .lockedOut => false

/-- A door is driven in these states alone. -/
def DoorState.travels : DoorState → Bool
  | .opening | .closing => true
  | .closed | .open | .fault => false

/-- The Motion Unit stands still: no axis drives or waits to drive, no door travels. -/
def MotionStill (s : State) : Prop :=
  (∀ a : Axis, (s.axis a).state.drives = false ∧ (s.axis a).state ≠ .waitDoor) ∧ ∀ d : Axis, (s.door d).state.travels = false

/-- No present axis of a profile leads itself (R50, row 13). -/
def Profile.LeadersApart (p : Profile) : Prop := ∀ a : Axis, p.axesPresent.getLsbD a.val = true → p.axes[a].leader ≠ some a

/-- The invariant of the Motion Unit: drives and states agree, nothing moves while a halt reason stands or the part is LOCKED, a walk runs
only while the part is LOCKED, a guarded figure drives only while its guard door is OPEN, and no axis leads itself in the working profile
or in one that a walk has validated. -/
structure MotionSafe (s : State) : Prop where
  axisDrive : ∀ a : Axis, (s.axis a).drive.isSome = true → (s.axis a).state.drives = true
  doorDrive : ∀ d : Axis, (s.door d).drive.isSome = true → (s.door d).state.travels = true
  still : s.halted = true ∨ s.partLocked = true → MotionStill s
  walkLocked : s.lu.walk.isSome = true → s.partLocked = true
  interlock : ∀ d a : Axis, s.isGuarded d a = true → (s.axis a).state.drives = true → (s.door d).state = .open
  leaders : ∀ p : Profile, s.lu.profile = some p → Profile.LeadersApart p
  validated : ∀ (w : Walk) (p : Profile), s.lu.walk = some w → w.install = some (some p) → Profile.LeadersApart p

/-- A standing halt has cut every pulse: by the part's answers to what R110, R117 and R174 leave open, either every halt cuts the pulses it
finds, or the one that may leave them, the SUPPLY of a walk that ends NONE, has SERVICE or THERMAL beside it, which cut them (log entries
52 and 79). -/
def haltHasCut (s : State) : Bool :=
  Config.walkEndCutsPulses || Config.laterHaltCutsPulses && (s.sv.mute.service || s.sv.mute.thermal)

/-- The invariant of the Strike Unit: no pulse runs while a halt reason stands (R174), save one that a walk which ended NONE left in flight
(R110; `haltHasCut`), no damper is energized while a halt reason stands, and the strike queue is empty while any mute reason stands, never
holds more than 32 entries and is in due order. -/
structure StrikeSafe (s : State) : Prop where
  cut : s.halted = true → haltHasCut s = true → ∀ b : Bell, (s.chan b).state ≠ .pulse
  damped : s.halted = true → ∀ b : Bell, (s.chan b).dampEnd = none
  muted : s.muted = true → s.st.queue = []
  bound : s.st.queue.length ≤ 32
  order : s.st.queue.Pairwise fun x y => x.due ≤ y.due

/-- The energized-current sum (R98): it is the sum of the admitted currents that the channels hold, and a channel holds one only while it
is in PULSE. -/
structure CurrentSafe (s : State) : Prop where
  sum : s.st.sum = (allBells.map fun b => (s.chan b).admitted).sum
  released : ∀ b : Bell, (s.chan b).state ≠ .pulse → (s.chan b).admitted = 0

/-- The heat estimate of every present bell is at most its Hmax (R106). -/
def HeatSafe (s : State) : Prop := ∀ b : Bell, s.bellPresent b = true → (s.chan b).heat ≤ (s.bellProfile b).hmax

/-- The invariant of the show queue (R35): at most 4 requests, and none outside RUN and QUIET. -/
structure QueueSafe (s : State) : Prop where
  bound : s.su.queue.length ≤ 4
  closed : s.presenting = false → s.su.queue = []

/-- The Link Port at rest between commands (R191, R192, R194): both queues within their bounds, no request waiting where it could be
taken, and nothing waiting that an idle transmitter could send. -/
structure LinkSafe (s : State) : Prop where
  requests : s.lp.requests.length ≤ 4
  replies : s.lp.replies.length ≤ 8
  waiting : s.lp.requests = [] ∨ 2 ≤ s.lp.replies.length
  idle : s.lp.tx = .idle → s.lp.replies = [] ∧ s.lp.latch = 0

/-- A request that arrives now is taken at once (R191): none waits, fewer than 2 replies are queued, and an idle transmitter has nothing to
send. In a state that meets `LinkSafe` this says that fewer than 2 replies are queued. -/
def LinkReady (s : State) : Prop :=
  s.lp.requests = [] ∧ s.lp.replies.length < 2 ∧ (s.lp.tx = .idle → s.lp.replies = [] ∧ s.lp.latch = 0)

/-- What a command leaves to the passing of time alone (R1, R3): the counter has gone on by `dt`, the time-set flag is not cleared, and
the commands that wait still wait. -/
def ClockKept (dt : Nat) (s t : State) : Prop :=
  t.tb.counter = s.tb.counter + dt ∧ (s.tb.timeSet = true → t.tb.timeSet = true) ∧ t.pending = s.pending

/-- A performance apart from its counters and its flag MUTED_PART, which the Strike Unit's reports change (R75). -/
def Performance.besideReports (p : Performance) : Performance :=
  { p with counters := ⟨0, 0, 0, 0, 0, 0, 0⟩, flags := { p.flags with mutedPart := false } }

/-- The engine apart from what the Strike Unit's reports change: the performance's counters and MUTED_PART, and the results of a self-test
with the bells still without one (R75, R87). -/
def PerformanceEngine.besideReports (e : PerformanceEngine) : PerformanceEngine :=
  { e with
    perf := e.perf.map Performance.besideReports
    selfTest := { e.selfTest with results := Vector.replicate 24 .notRun, outstanding := [] } }

/-- The Link Port apart from the latch set and the levels' record (R195). -/
def LinkPort.besideNotices (l : LinkPort) : LinkPort := { l with latch := 0, levels := 0 }

/-- Everything but the Strike Unit, the engine's record of its reports, and the latch set and levels is as before. -/
structure OnlyStrikes (s t : State) : Prop where
  tb : t.tb = s.tb
  su : t.su = s.su
  lu : t.lu = s.lu
  pe : t.pe.besideReports = s.pe.besideReports
  mu : t.mu = s.mu
  sv : t.sv = s.sv
  lp : t.lp.besideNotices = s.lp.besideNotices
  pins : t.pins = s.pins
  pending : t.pending = s.pending

/-- Everything but the Motion Unit, the engine's hold and the latch set is as before. -/
structure OnlyMotion (s t : State) : Prop where
  tb : t.tb = s.tb
  su : t.su = s.su
  lu : t.lu = s.lu
  pe : { t.pe with hold := .none } = { s.pe with hold := .none }
  st : t.st = s.st
  sv : t.sv = s.sv
  lp : { t.lp with latch := 0 } = { s.lp with latch := 0 }
  pins : t.pins = s.pins
  pending : t.pending = s.pending

end Sys2Proof.Machine
end

