-- ==== Sys2Proof/WellFormed.lean ====
section
/-! DEFINITION. Which commands the outside world can send: what the pins, the link's frames and the flash can carry. A meaning does
not rest on it: `Machine.exec` answers for every command. -/

namespace Sys2Proof

namespace Instr

/-- The time that passes before the command; none at a power-on reset, which starts the counter. -/
def elapsed : Instr → Nat
  | .powerOnReset _ _ => 0
  | .softReset dt _ _ | .softResetInstant dt | .frameReceived dt | .badFrame dt _ | .frameGapTimeout dt
  | .unknownKind dt _ _ _ | .ident dt _ _ | .getStatus dt _ _ | .setTime dt _ _ | .getTime dt _ _ | .setSeason dt _ _
  | .getSeason dt _ _ | .setHour dt _ _ | .getHour dt _ _ | .playShow dt _ _ | .stopShow dt _ _ | .getQueue dt _ _
  | .setState dt _ _ | .service dt _ _ | .resume dt _ _ | .setCodes dt _ _ | .strikeTest dt _ _ | .selfTest dt _ _
  | .getSelfTest dt _ _ | .getBell dt _ _ | .counterSelect dt _ _ | .counterSnapshot dt _ _ | .readLog dt _ _
  | .moveAxis dt _ _ | .homeAxis dt _ _ | .clearFaultBell dt _ _ | .clearFaultAxis dt _ _ | .getAxis dt _ _
  | .getDoor dt _ _ | .storeRead dt _ _ | .storeWrite dt _ _ | .storeErase dt _ _ | .storeResult dt _ _ | .rescan dt _ _
  | .getWalkReport dt _ _ | .setNoticeMask dt _ _ | .transmitEnd dt | .wallSecondStart dt | .slewHoldEnd dt
  | .ppsEdge dt | .ppsLossTimeout dt | .nextTriggerHandled dt | .heldLinkHeadDue dt | .dueCountReached dt
  | .preparationLimit dt | .divisionInstant dt | .waitLimitExpiry dt | .prefetchReadEnd dt _ | .stallTimeout dt
  | .codaTimeout dt | .supplyTimerExpiry dt | .thermalTimerExpiry dt | .selfTestHandoff dt | .walkTransferEnd dt _
  | .walkStatusTimeout dt | .storeTransferEnd dt _ | .storeBusyTimeout dt | .writeTimeout dt | .eraseTimeout dt
  | .strikeHeadDue dt | .slackExpiry dt | .pulseEnd dt _ | .recoveryEnd dt _ | .hlimChange dt _ _ | .hprsActive dt _ _
  | .overCurrent dt _ | .presenceDeadline dt _ | .bellOffTimeEnd dt _ | .decayTick dt | .dampEnd dt _
  | .pickupEdge dt _ | .verifyWindowEnd dt _ | .axisCount dt _ | .reversalEnd dt _ | .dwellEnd dt _
  | .homeSwitchChange dt _ _ | .farSwitchActive dt _ _ | .alimChange dt _ _ | .axisStall dt _ | .travelTimeout dt _
  | .axisOvercurrent dt _ | .axisOffTimeEnd dt _ | .doorSwitchChange dt _ _ _ | .doorTimeout dt _
  | .doorOvercurrent dt _ | .switchLost dt _ | .doorOffTimeEnd dt _ | .servicePress dt | .lampToggle dt
  | .hatchOpening dt | .hatchClosed dt | .supplySample dt _ | .dieReading dt _ | .codeBlockEnd dt | .codeBit dt _
  | .byteReceived dt _ | .serviceReqChange dt _ | .hatchShowsClosed dt => dt

/-- The TAG and payload of a request command. -/
def frame : Instr → Option (Byte × List Byte)
  | .softReset _ g p | .unknownKind _ _ g p | .ident _ g p | .getStatus _ g p | .setTime _ g p | .getTime _ g p
  | .setSeason _ g p | .getSeason _ g p | .setHour _ g p | .getHour _ g p | .playShow _ g p | .stopShow _ g p
  | .getQueue _ g p | .setState _ g p | .service _ g p | .resume _ g p | .setCodes _ g p | .strikeTest _ g p
  | .selfTest _ g p | .getSelfTest _ g p | .getBell _ g p | .counterSelect _ g p | .counterSnapshot _ g p
  | .readLog _ g p | .moveAxis _ g p | .homeAxis _ g p | .clearFaultBell _ g p | .clearFaultAxis _ g p
  | .getAxis _ g p | .getDoor _ g p | .storeRead _ g p | .storeWrite _ g p | .storeErase _ g p | .storeResult _ g p
  | .rescan _ g p | .getWalkReport _ g p | .setNoticeMask _ g p => some (g, p)
  | .powerOnReset _ _ | .softResetInstant _ | .frameReceived _ | .badFrame _ _ | .frameGapTimeout _ | .transmitEnd _
  | .wallSecondStart _ | .slewHoldEnd _ | .ppsEdge _ | .ppsLossTimeout _ | .nextTriggerHandled _ | .heldLinkHeadDue _
  | .dueCountReached _ | .preparationLimit _ | .divisionInstant _ | .waitLimitExpiry _ | .prefetchReadEnd _ _
  | .stallTimeout _ | .codaTimeout _ | .supplyTimerExpiry _ | .thermalTimerExpiry _ | .selfTestHandoff _
  | .walkTransferEnd _ _ | .walkStatusTimeout _ | .storeTransferEnd _ _ | .storeBusyTimeout _ | .writeTimeout _
  | .eraseTimeout _ | .strikeHeadDue _ | .slackExpiry _ | .pulseEnd _ _ | .recoveryEnd _ _ | .hlimChange _ _ _
  | .hprsActive _ _ _ | .overCurrent _ _ | .presenceDeadline _ _ | .bellOffTimeEnd _ _ | .decayTick _ | .dampEnd _ _
  | .pickupEdge _ _ | .verifyWindowEnd _ _ | .axisCount _ _ | .reversalEnd _ _ | .dwellEnd _ _
  | .homeSwitchChange _ _ _ | .farSwitchActive _ _ _ | .alimChange _ _ _ | .axisStall _ _ | .travelTimeout _ _
  | .axisOvercurrent _ _ | .axisOffTimeEnd _ _ | .doorSwitchChange _ _ _ _ | .doorTimeout _ _ | .doorOvercurrent _ _
  | .switchLost _ _ | .doorOffTimeEnd _ _ | .servicePress _ | .lampToggle _ | .hatchOpening _ | .hatchClosed _
  | .supplySample _ _ | .dieReading _ _ | .codeBlockEnd _ | .codeBit _ _ | .byteReceived _ _ | .serviceReqChange _ _
  | .hatchShowsClosed _ => none

/-- A good frame carries a TAG from 1 to 255 and a payload of at most 240 bytes (11.1, R189). -/
def frameOk : Option (Byte × List Byte) → Bool
  | none => true
  | some (g, p) => g != 0 && decide (p.length ≤ 240)

/-- The bytes a flash transfer returned; no transfer reads more than a record's 65,535 (3.2, R41). -/
def flashBytes : Instr → List Byte
  | .prefetchReadEnd _ d | .walkTransferEnd _ d | .storeTransferEnd _ d => d
  | _ => []

/-- What one command's own operands must satisfy. -/
def operandOk : Instr → Bool
  | .unknownKind _ k _ _ => decide (0x24 ≤ k.toNat ∧ k.toNat ≤ 0x7F) || k == 0
  | .clearFaultBell _ _ p => p.getD 0 0 != 1
  | .clearFaultAxis _ _ p => p.getD 0 0 == 1
  | .dieReading _ t => decide (-40 ≤ t ∧ t ≤ 200)
  | _ => true

/-- A command the outside world can send: the counter does not run past its 64 bits between two commands, a request comes from a good
frame, the flash returns no more bytes than a transfer can hold, and the command's own operands are in range. -/
def wellFormed (i : Instr) : Bool :=
  decide (i.elapsed < 2 ^ 64) && frameOk i.frame && decide (i.flashBytes.length ≤ 65535) && i.operandOk

end Instr

end Sys2Proof
end

