-- ==== Sys2Proof/Certificates/Slice0/Obligations.lean ====
section
/-! DEFINITION. The statements for the provers. In the statements of commands, `u` is the state at the instant of the command: the state
before it with its `dt` microseconds passed (log entry 1). A notice kind's bit in the latch set, where it matters, is named by `Kind.num`. -/

section

open Sys2Proof Sys2Proof.Machine

/-! ## The queue of commands -/

/-- Tier 1. One step carries out the command at the front with the rest waiting. The queue and its place in State are this model's (log
entry 47). -/
def Obligations.StepRunsFrontCommand : Prop :=
  ∀ (c : Instr) (rest : List Instr) (s : State), step { s with pending := c :: rest } = exec c { s with pending := rest }

/-! ## Requests that read -/

/-- Tier 1. IDENT gives the identity (R198), and GET_TIME the fields of R12, all of the instant it is taken. The width of IDENT's library
format version, and the byte that stands for none in an optional field, are this model's (log entry 20). -/
def Obligations.IdentityAndTimeAreReported : Prop :=
  ∀ (dt : Nat) (tag : Byte) (s u : State), u = elapse dt s → LinkReady s →
    exec (.ident dt tag []) s =
        .next (arbitrate (placeReply
          ⟨0x81, tag, .ok, [.u16 (some 0x52A7), .u16 (some 0x0C24), .u8 (some 1), .u16 (some 1)]⟩ u)) ∧
      exec (.getTime dt tag []) s =
        .next (arbitrate (placeReply
          ⟨0x84, tag, .ok,
            [.wall (some u.tb.reading), .u8 (some ((u.tb.reading / 86400000000 + 5) % 7)), .u64 (some u.tb.counter),
              .u8 (some u.tb.timeSet.toNat), .u8 (some u.tb.discipline.num), .s32 u.tb.lastOffset, .s32 (some u.tb.slew),
              .u8 (u.tb.pendingStep.map (·.source.num)), .s64 (u.tb.pendingStep.map (·.delta))]⟩ u))

/-- Tier 1. The other reading requests reply OK with the fields their rules list, all of the instant they are taken, and change nothing but
the reply they form (R23, R24, R37, R53, R58, R84, R88, R131, R155, R171, R199). The order and width of fields that the formats leave open,
the absent address and length that STORE_RESULT gives of a RESCAN, and the division number in PREPARING, are this model's (log entries 19,
20, 50, 51, 55 to 58, 65, 66, 68 to 72, 75 and 76). -/
def Obligations.ReadsReplyOkAndChangeNothing : Prop :=
  ∀ (dt : Nat) (tag : Byte) (s u : State), u = elapse dt s → LinkReady s →
    let ok (kind : Byte) (c : Instr) (fields : List Field) : Prop := exec c s = .next (arbitrate (placeReply ⟨kind, tag, .ok, fields⟩ u))
    ok 0x82 (.getStatus dt tag [])
        (supervisionStatus u ++ [.u8 u.su.activeSeason, .u8 (some u.su.activeProgramme)] ++
          [.u8 (some u.lu.dirState.num), .u8 (u.lu.storeOp.map (·.kind.num))] ++ performanceStatus u ++ strikeStatus u ++
          motionStatus u ++ linkStatus u) ∧
      ok 0x8B (.getQueue dt tag [])
        ([.u8 (some u.su.queue.length)] ++ queueFields u ++ recordFields u.su.record ++ nextTriggerFields u ++
          [.u16 (some u.su.counters.posted), .u16 (some u.su.counters.missing), .u16 (some u.su.counters.skipped),
            .u16 (some u.su.counters.suppressed), .u16 (some u.su.counters.droppedFull), .u16 (some u.su.counters.late)]) ∧
      ok 0x92 (.getSelfTest dt tag [])
        (u.pe.selfTest.state.fields ++ (allBells.map fun b => (u.pe.selfTest.results[b]).fields).flatten) ∧
      ok 0xA1 (.getWalkReport dt tag []) (walkReport [] u).fields ∧
      (u.lu.storeOp = none → u.lu.storeResult = none → ok 0x9F (.storeResult dt tag []) [.u8 (some 0)]) ∧
      (∀ o, u.lu.storeOp = some o →
        ok 0x9F (.storeResult dt tag []) (.u8 (some 1) :: operationFields o.kind o.address o.length)) ∧
      (∀ r, u.lu.storeOp = none → u.lu.storeResult = some r →
        ok 0x9F (.storeResult dt tag [])
          (.u8 (some 2) :: operationFields r.kind r.address r.length ++ [.u8 (some r.outcome.num), .bytes r.data])) ∧
      (∀ (i : Fin 16) (x : Byte) (e : SeasonEntry), x.toNat = i.val → u.su.seasons[i] = e →
        ok 0x86 (.getSeason dt tag [x])
          [.u8 (some e.enabled.toNat), .u8 (some e.startMonth), .u8 (some e.startDay), .u8 (some e.endMonth), .u8 (some e.endDay),
            .u8 (some e.weekdays.toNat), .u8 (some e.priority), .u8 (some e.programme)]) ∧
      (∀ (p : Fin 8) (h : Fin 24) (x y : Byte) (e : HourEntry), x.toNat = p.val → y.toNat = h.val → u.su.programmes[p][h] = e →
        ok 0x88 (.getHour dt tag [x, y]) [.u8 e.hourShow, .u8 e.quarterShow, .u8 (some e.mode.num)]) ∧
      (∀ (b : Bell) (x : Byte) (c : Channel), x.toNat = b.val → u.chan b = c →
        ok 0x93 (.getBell dt tag [x])
          ([.u8 (some (u.bellPresent b).toNat), .u8 (some c.state.num), .u64 c.stateEnd, .u8 (some c.trial.toNat),
            .u8 (some c.faultCount), .u8 (c.lastFault.map (·.kind.num)), .u64 (c.lastFault.map (·.at_)),
            .u16 (c.lastFault.bind (·.trip)), .u32 (some c.heat), .u8 (some c.warm.toNat), .u8 (some c.dampEnd.isSome.toNat),
            .u64 c.dampEnd, .u8 (some c.missCount), .u8 (some c.verification.num)] ++ lastStrikeFields c.lastStrike)) ∧
      (∀ (a : Axis) (x : Byte), x.toNat = a.val →
        let place : List Field := [.u8 (some (u.axisProfile a).isSome.toNat), .u8 ((u.axisProfile a).map fun p => AxisKind.num p.kind)]
        ok 0x9A (.getAxis dt tag [x]) (place ++ (if u.isDoor a then [] else axisFields (u.axisProfile a) (u.axis a))) ∧
          ok 0x9B (.getDoor dt tag [x])
            (place ++ (if u.isDoor a then doorFields (setOf (u.isGuarded a) allAxes) (u.door a) else []))) ∧
      (∀ i n : Byte, i.toNat ≤ 15 → 1 ≤ n.toNat → n.toNat ≤ 4 → ∀ l : List LogRecord, l = (u.pe.log.drop i.toNat).take n.toNat →
        ok 0x96 (.readLog dt tag [i, n])
          (.u8 (some l.length) :: (l.map fun r =>
            [.u16 (some r.seq), .u8 (some r.id), .u8 (some r.origin.num), .u8 (some r.count), .u8 (some r.mode.num),
              .wall (some r.due), .wall r.start, .wall (some r.finish), .u8 (r.result.map (·.num)), .u8 (some r.flags.num),
              .u16 (some r.fired), .u16 (some r.dropped), .u16 (some r.misses), .u16 (some r.stalls)]).flatten))

/-! ## Requests that act -/

/-- Tier 1. A request of a KIND that names none is answered UNKNOWN_KIND, whatever its payload, and changes nothing (R191). A KIND that
names a request, with a payload of another length than its own, is answered BAD_LENGTH and changes nothing (R191, step 2); stated of the
shared meaning of all requests. That the command UNKNOWN_KIND carries no KIND of the catalogue is this model's reading (log entry 49). -/
def Obligations.BadRequestsAreAnswered : Prop :=
  ∀ (dt : Nat) (kind tag : Byte) (payload : List Byte) (s u : State), u = elapse dt s → LinkReady s →
    (kind.toNat = 0 ∨ 0x24 ≤ kind.toNat → kind.toNat < 0x80 →
      exec (.unknownKind dt kind tag payload) s = .next (arbitrate (placeReply ⟨kind + 0x80, tag, .unknownKind, []⟩ u))) ∧
      ∀ n : Nat, requiredLength kind payload = some n → payload.length ≠ n →
        hostRequest dt kind tag payload s = .next (arbitrate (placeReply ⟨kind + 0x80, tag, .badLength, []⟩ u))

/-- Tier 2. The head of the request queue is taken while fewer than 2 replies are queued: it alone leaves the queue, and the next head is
judged by the same condition; with 2 replies queued, or no request, none is taken (R191). -/
def Obligations.HeadsAreTakenInTurn : Prop :=
  ∀ s : State,
    (∀ r rest, s.lp.requests = r :: rest → s.lp.replies.length < 2 →
      (take r s).lp.requests = rest ∧ serve s = serve (take r s)) ∧
      (s.lp.requests = [] ∨ 2 ≤ s.lp.replies.length → serve s = s)

/-- Tier 1. SET_TIME with a valid time: OK and a step applied while the engine is IDLE or in SELF_TEST, DEFERRED and a pending step
while it performs (R11). SET_SEASON and SET_HOUR with arguments that pass their checks replace the whole entry, recompute the next trigger
and reply OK (R23, R24, R27).
SET_NOTICE_MASK replaces mask and edge selections, takes newly masked kinds out of the latch set, and replies with both (R196). -/
def Obligations.SettingsRequestsReplace : Prop :=
  (∀ (dt : Nat) (tag : Byte) (p : List Byte) (s u : State) (delta : Int), u = elapse dt s → LinkReady s → p.length = 9 →
    validDateTime (dateTimeAt p 0) = true → delta = (readingOf (dateTimeAt p 0) : Int) - u.tb.reading →
    exec (.setTime dt tag p) s =
      .next (conclude (placeReply ⟨0x83, tag, if u.performing then .deferred else .ok, []⟩ (offerStep delta .host u)))) ∧
  (∀ (dt : Nat) (tag : Byte) (s u : State), u = elapse dt s → LinkReady s →
    (∀ (i : Fin 16) (p : List Byte), p.length = 9 → byteAt p 0 = i.val → (seasonAt p 1).ok = true →
      exec (.setSeason dt tag p) s =
        .next (conclude (placeReply ⟨0x85, tag, .ok, []⟩
          (recomputeTrigger (evaluateSeason (u.modSu fun w => { w with seasons := w.seasons.set i (seasonAt p 1) })))))) ∧
      (∀ (pr : Fin 8) (h : Fin 24) (p : List Byte) (e : HourEntry), p.length = 5 → byteAt p 0 = pr.val →
        byteAt p 1 = h.val → hourEntryAt p 2 = some e →
        exec (.setHour dt tag p) s =
          .next (conclude (placeReply ⟨0x87, tag, .ok, []⟩
            (recomputeTrigger (u.modSu fun w => { w with programmes := w.programmes.set pr (w.programmes[pr].set h e) })))))) ∧
  ∀ (dt : Nat) (tag : Byte) (p : List Byte) (s u : State) (mask : KindSet) (both : LevelSet), u = elapse dt s → LinkReady s →
    p.length = 4 → mask.toNat = numAt p 0 3 → both.toNat = byteAt p 3 →
    exec (.setNoticeMask dt tag p) s =
      .next (arbitrate (placeReply ⟨0xA2, tag, .ok, [.u24 (some mask.toNat), .u8 (some both.toNat)]⟩
        (u.modLp fun l => { l with mask := mask, both := both, latch := l.latch &&& ~~~mask })))

/-- Tier 1. PLAY_SHOW appends a LINK request due one preroll from now with start NOW, and at the given instant with a given start from
now to a day ahead; its count is clamped to 1 to 12, and the reply gives its place (R36). That a due instant past the end of the
calendar does not wrap is this model's choice (log entry 53). STOP_SHOW sends a performance in PREPARING or PLAYING to its coda with
ABORTED_LINK, stops a self-test, and flushes the queue where its flag is set (R79). -/
def Obligations.ShowRequestsAct : Prop :=
  (∀ (dt due : Nat) (given : Bool) (tag : Byte) (p : List Byte) (m : Mode) (e : DirEntry) (s u : State), u = elapse dt s → LinkReady s →
    p.length = 13 → byteAt p 0 ≤ 63 → Mode.ofNum (byteAt p 2) = some m → u.partLocked = false →
    u.presenting = true → u.entryOf (byteAt p 0) = some e → e.stale = false → u.su.queue.length < 4 →
    (byteAt p 3 = 0 ∧ given = false ∧ due = u.tb.reading + e.preroll * 1000) ∨
      (byteAt p 3 = 1 ∧ given = true ∧ validDateTime (dateTimeAt p 4) = true ∧ due = readingOf (dateTimeAt p 4) ∧
        u.tb.reading ≤ due ∧ due ≤ u.tb.reading + 86400000000) →
    let r : ShowRequest := ⟨byteAt p 0, .link, max 1 (min (byteAt p 1) 12), m, due, u.tb.reading, given⟩
    exec (.playShow dt tag p) s =
      .next (conclude (placeReply ⟨0x89, tag, .ok, [.u8 (some (u.su.queue.length + 1))]⟩
        (examineNewHead u (countPosted (setQueue (u.su.queue ++ [r]) u)))))) ∧
  ∀ (dt : Nat) (tag b : Byte) (s u v : State), u = elapse dt s → LinkReady s →
    v = stopSelfTest .stopped (abortToCoda .abortedLink u) →
    exec (.stopShow dt tag [b]) s =
      .next (conclude (if b = 0 then placeReply ⟨0x8A, tag, .ok, [.u8 (some u.pe.engine.num), .u8 (some 0)]⟩ v
        else placeReply ⟨0x8A, tag, .ok, [.u8 (some u.pe.engine.num), .u8 (some v.su.queue.length)]⟩ (flushQueue v)))

/-- Tier 1. SET_STATE in RUN, QUIET and STILL (table of R185): RUN and QUIET examine the head of the show queue from whatever state they
are taken in, and cancel the park that STILL left owed; the reply gives the presentation state and the mute reason set after it. SERVICE
enters SERVICE_PENDING from RUN, QUIET and STILL; RESUME cancels it there and in SERVICE_READY, and leaves SERVICE while the hatch is
CLOSED (R167, R170). The numbers of the presentation states are this model's (log entry 75). -/
def Obligations.PresentationRequestsMoveTheState : Prop :=
  ∀ (dt : Nat) (tag : Byte) (s u : State), u = elapse dt s → LinkReady s →
    let ok (b : Byte) (v : State) : Prop :=
      exec (.setState dt tag [b]) s =
        .next (conclude (placeReply ⟨0x8C, tag, .ok, [.u8 (some v.sv.presentation.num), .u8 (some v.sv.mute.num)]⟩ v))
    (u.sv.presentation = .run ∨ u.sv.presentation = .quiet → ok 0 (enterPresentation .run (removeReason .operator u)) ∧
      ok 1 (enterPresentation .quiet (addReason .operator u)) ∧ ok 2 (owePark true (enterPresentation .still u))) ∧
      (u.sv.presentation = .still → ok 0 (enterPresentation .run (owePark false (removeReason .operator u))) ∧
        ok 1 (enterPresentation .quiet (owePark false (addReason .operator u))) ∧ ok 2 u) ∧
      (u.sv.presentation = .run ∨ u.sv.presentation = .quiet ∨ u.sv.presentation = .still →
        exec (.service dt tag []) s = .next (conclude (placeReply ⟨0x8D, tag, .ok, []⟩ (enterServicePending u)))) ∧
      (u.sv.presentation = .servicePending ∨ u.sv.presentation = .serviceReady →
        exec (.resume dt tag []) s = .next (conclude (placeReply ⟨0x8E, tag, .ok, []⟩ (cancelService u)))) ∧
      (u.sv.presentation = .service → u.sv.hatchOpen = false →
        exec (.resume dt tag []) s = .next (conclude (placeReply ⟨0x8E, tag, .ok, []⟩ (leaveService u))))

/-- Tier 1. STRIKE_TEST hands a TEST request due at once to the Strike Unit, and SELF_TEST starts the self-test (R85, R86); that its first
bell is handed over by a SELF_TEST_HANDOFF of the same instant, and not within the request, is this model's reading (log entry 40).
COUNTER_SELECT sets source and mode, and a new source starts the count at 0; COUNTER_SNAPSHOT transfers in MANUAL mode and only reads in
AUTO mode (R129, R130). -/
def Obligations.StrikeUnitRequests : Prop :=
  (∀ (dt : Nat) (tag : Byte) (s u : State), u = elapse dt s → LinkReady s → u.partLocked = false → u.pe.engine = .idle →
    (∀ (b : Bell) (p v : Byte), p.toNat = b.val → 1 ≤ v.toNat → v.toNat ≤ 127 → u.bellPresent b = true →
      exec (.strikeTest dt tag [p, v]) s =
        .next (conclude (placeReply ⟨0x90, tag, .ok, []⟩ (strikeArrives ⟨b, v.toNat, u.now, .test, none⟩ u)))) ∧
      (u.sv.presentation ≠ .servicePending → u.sv.presentation ≠ .serviceReady → u.sv.presentation ≠ .service →
        u.muted = false →
        exec (.selfTest dt tag []) s = .next (conclude (placeReply ⟨0x91, tag, .accepted, []⟩ (beginSelfTest u))))) ∧
  ∀ (dt : Nat) (tag : Byte) (s u : State), u = elapse dt s → LinkReady s →
    (∀ (x y : Byte) (src : QualitySource) (m : QualityMode), x.toNat = src.num → y.toNat = m.num →
      ∃ q : QualityCounter, q.source = src ∧ q.mode = m ∧ q.held = u.st.quality.held ∧
        (q.count = if src = u.st.quality.source then u.st.quality.count else 0) ∧
        (q.fullReported = if src = u.st.quality.source then u.st.quality.fullReported else false) ∧
        exec (.counterSelect dt tag [x, y]) s =
          .next (arbitrate (placeReply ⟨0x94, tag, .ok, [.u16 (some q.count), .u16 (some q.held)]⟩
            (u.modSt fun w => { w with quality := q })))) ∧
      (∀ x y : Byte, 3 < x.toNat ∨ 1 < y.toNat →
        exec (.counterSelect dt tag [x, y]) s = .next (arbitrate (placeReply ⟨0x94, tag, .badArgument, []⟩ u))) ∧
      (u.st.quality.mode = .manual →
        exec (.counterSnapshot dt tag []) s =
          .next (arbitrate (placeReply ⟨0x95, tag, .ok, [.u16 (some u.st.quality.count)]⟩
            (u.modSt fun w => { w with quality :=
              { w.quality with held := w.quality.count, count := 0, fullReported := false } })))) ∧
      (u.st.quality.mode = .auto →
        exec (.counterSnapshot dt tag []) s =
          .next (arbitrate (placeReply ⟨0x95, tag, .ok, [.u16 (some u.st.quality.held)]⟩ u)))

/-- Tier 1. MOVE_AXIS gives a figure a HOST target and a door a LINK demand, and replies with the state that gives (R144). HOME_AXIS
gives a home request and replies ACCEPTED (R145). The state MOVE_AXIS reports, that of a drive that faults at its start among them, and
what HOME_AXIS does to an axis that is MOVING are this model's reading and choices (log entries 22, 73 and 77). -/
def Obligations.MoveAndHomeRequests : Prop :=
  (∀ (dt : Nat) (tag : Byte) (a : Axis) (n q : Byte) (s u : State), u = elapse dt s → LinkReady s → n.toNat = a.val →
    u.partLocked = false → u.pe.engine = .idle → u.presenting = true → u.halted = false →
    (u.isFigure a = true → q.toNat ≤ 15 → u.leader a = none → (u.axis a).state.refusesMove = false →
      ∃ v, v = give (poseTarget u a .host q.toNat) a u ∧
        exec (.moveAxis dt tag [n, q]) s =
          .next (conclude (placeReply ⟨0x97, tag, .ok, [.u8 (some (v.axis a).state.num)]⟩ v))) ∧
      (u.isDoor a = true → q.toNat ≤ 1 →
        ∃ v, v = demandDoors (putBit 0 a.val true) (if q.toNat = 1 then DoorRecord.linkOpen else DoorRecord.linkClose) u ∧
          exec (.moveAxis dt tag [n, q]) s =
            .next (conclude (placeReply ⟨0x97, tag, .ok, [.u8 (some (v.door a).state.num)]⟩ v)))) ∧
  ∀ (dt : Nat) (tag : Byte) (a : Axis) (n : Byte) (s u : State), u = elapse dt s → LinkReady s → n.toNat = a.val →
    u.partLocked = false → u.pe.engine = .idle → u.sv.presentation.inService = false → u.isFigure a = true →
    (u.axis a).state ≠ .faultOff → (u.axis a).state ≠ .lockedOut →
    exec (.homeAxis dt tag [n]) s =
      .next (conclude (placeReply ⟨0x98, tag, .accepted, []⟩ (u.modAxis a AxisRecord.requestHome)))

/-- Tier 1. CLEAR_FAULT of a present bell acts by the table of R118: the count becomes 0; FAULT_OFF, RETRY_READY and LOCKED_OUT become
READY; the trial flag clears but in READY; FAULT_OFF loses its off-time end; nothing else changes, and the head is examined when the
channel leaves FAULT_OFF or LOCKED_OUT. Of a present figure it acts by the table of R151: the count becomes 0, and FAULT_OFF and
LOCKED_OUT lose the off-time end and are given a home request (R139). Of a present door it makes the count 0, and in DOOR_FAULT cancels
the off-time end and sets the release-pending flag (R162). Which instant after the request the reply's second state describes, and that an
axis without its reference stands at position 0, are this model's readings (log entries 21 and 41). -/
def Obligations.ClearFaultActsByClass : Prop :=
  ∀ (dt : Nat) (tag : Byte) (s u : State), u = elapse dt s → LinkReady s →
    (∀ (b : Bell) (n : Byte), n.toNat = b.val → u.bellPresent b = true →
      ∃ v, v = u.modChan b (fun c =>
          { c with
            state := if c.state = .faultOff ∨ c.state = .retryReady ∨ c.state = .lockedOut then .ready else c.state
            offEnd := if c.state = .faultOff then none else c.offEnd
            faultCount := 0
            trial := if c.state = .ready then c.trial else false }) ∧
        exec (.clearFaultBell dt tag [0, n]) s =
          .next (conclude (placeReply
            ⟨0x99, tag, .ok, [.u8 (some (u.chan b).state.num), .u8 (some (v.chan b).state.num)]⟩
            (if (u.chan b).state = .faultOff ∨ (u.chan b).state = .lockedOut then examineStrikes v else v)))) ∧
      (∀ (a : Axis) (n : Byte), n.toNat = a.val → u.isFigure a = true →
        ∃ v, v = u.modAxis a (fun r =>
            if r.state = .faultOff ∨ r.state = .lockedOut then
              { r with
                state := .unreferenced
                homeRequest := true
                referenced := false
                position := 0
                target := if r.held then r.target else none
                runner := if r.held then r.runner else none
                dwellEnd := none
                waitHoming := false
                drive := none
                tripAt := none
                faultCount := 0
                offEnd := none }
            else { r with faultCount := 0 }) ∧
          exec (.clearFaultAxis dt tag [1, n]) s =
            .next (conclude (placeReply
              ⟨0x99, tag, .ok, [.u8 (some (u.axis a).state.num), .u8 (some ((settleMotion v).axis a).state.num)]⟩ v))) ∧
      (∀ (d : Axis) (n : Byte), n.toNat = d.val → u.isDoor d = true →
        ∃ v, v = u.modDoor d (fun r =>
            { r with
              faultCount := 0
              offEnd := if r.state = .fault then none else r.offEnd
              release := r.release || r.state == .fault }) ∧
          exec (.clearFaultAxis dt tag [1, n]) s =
            .next (conclude (placeReply
              ⟨0x99, tag, .ok, [.u8 (some (u.door d).state.num), .u8 (some ((settleMotion v).door d).state.num)]⟩ v)))

/-- Tier 1. The four store requests are ACCEPTED where nothing is in flight and their arguments fit, and their operation is then in
flight (R54 to R57, R60). A RESCAN starts the walk (R43): directory, pose lists and tables are emptied, the report starts afresh, the
working profile stays. The next trigger is recomputed: with the tables empty, every trigger up to the reading is handled with no show,
and the record names the last of them (R27, R39). Where the part was not LOCKED it becomes so (R52, R153, R157, R184): every axis stops,
is UNREFERENCED and drops what it had, every door takes the state its switches show, an owed park is cancelled, and RUN, QUIET and STILL
become LOCKED with the show queue flushed, each request counted SUPPRESSED (R35), while the service states stay; otherwise motion, queue
and supervision stay as they are. The Strike Unit and the mute reason set are not touched. The address and length RESCAN leaves, that an
axis without its reference stands at position 0, that a target dropped so is not counted, that absent doors are read too, and the
members of the open demand sets then are this model's choices (log entries 19, 41, 24, 28 and 54). -/
def Obligations.StoreRequestsAreAccepted : Prop :=
  ∀ (dt : Nat) (tag : Byte) (s u : State), u = elapse dt s → LinkReady s → u.lu.storeOp = none → u.lu.walk = none →
    (∀ p : List Byte, p.length = 5 → 1 ≤ byteAt p 4 → byteAt p 4 ≤ 128 → numAt p 0 4 + byteAt p 4 ≤ 16777216 →
      exec (.storeRead dt tag p) s =
        .next (arbitrate (placeReply ⟨0x9C, tag, .accepted, []⟩
          (takeStoreOp ⟨.read, numAt p 0 4, byteAt p 4, [], .poll none⟩ u)))) ∧
      (∀ p : List Byte, p.length = 5 + byteAt p 4 → u.pe.engine = .idle → 1 ≤ byteAt p 4 → byteAt p 4 ≤ 128 →
        numAt p 0 4 % 256 + byteAt p 4 ≤ 256 → numAt p 0 4 < 16777216 →
        exec (.storeWrite dt tag p) s =
          .next (arbitrate (placeReply ⟨0x9D, tag, .accepted, []⟩
            (takeStoreOp ⟨.write, numAt p 0 4, byteAt p 4, p.drop 5, .poll none⟩ u)))) ∧
      (∀ p : List Byte, p.length = 4 → u.pe.engine = .idle → numAt p 0 4 % 4096 = 0 → numAt p 0 4 < 16777216 →
        exec (.storeErase dt tag p) s =
          .next (arbitrate (placeReply ⟨0x9E, tag, .accepted, []⟩
            (takeStoreOp ⟨.erase, numAt p 0 4, 4096, [], .poll none⟩ u)))) ∧
      (u.pe.engine = .idle →
        ∃ v, exec (.rescan dt tag []) s = .next (conclude (placeReply ⟨0xA0, tag, .accepted, []⟩ v)) ∧
          v.tb = u.tb ∧ v.pe = u.pe ∧ v.st = u.st ∧ v.lp = u.lp ∧ v.pins = u.pins ∧
          (∃ (port : Option PortUse) (reads : List FetchRead),
            v.lu =
              { u.lu with
                dirState := .scanning
                directory := []
                poseLists := Vector.replicate 32 none
                report := WalkReport.start
                walk := some Walk.start
                storeOp := some ⟨.rescan, 0, 0, [], .walking⟩
                storeResult := none
                port := port
                prefetch := reads } ∧
              (u.lu.prefetch = [] → reads = [] ∧ port = some (u.lu.port.getD ⟨.walk, .readStatus, false⟩))) ∧
          (let first : Nat := match u.su.record with | .named t => t + 1 | .clearSince r => r / 900000000 + 1
           let last : Nat := min (u.tb.reading / 900000000) 3506399
           let emptied : ScheduleUnit :=
            { u.su with
              record := if u.tb.timeSet = true ∧ first ≤ last then .named last else u.su.record
              seasons := Vector.replicate 16 SeasonEntry.empty
              programmes := Vector.replicate 8 (Vector.replicate 24 HourEntry.empty) }
           let flushed : ScheduleUnit :=
            { emptied with
              queue := []
              counters := { u.su.counters with suppressed := Nat.iterate satInc u.su.queue.length u.su.counters.suppressed } }
           (u.partLocked = true → v.su = emptied ∧ v.mu = u.mu ∧ v.sv = u.sv) ∧
             (u.partLocked = false →
              (u.sv.presentation = .run ∨ u.sv.presentation = .quiet ∨ u.sv.presentation = .still →
                v.su = flushed ∧ v.sv = { u.sv with presentation := .locked, parkOwed := false }) ∧
                (u.sv.presentation.inService = true → v.su = emptied ∧ v.sv = { u.sv with parkOwed := false }) ∧
                (∀ a : Axis, v.axis a =
                  { u.axis a with
                    state := .unreferenced
                    position := 0
                    referenced := false
                    homeRequest := false
                    target := none
                    held := false
                    runner := none
                    dwellEnd := none
                    waitHoming := false
                    drive := none
                    tripAt := none
                    faultCount := 0
                    offEnd := none }) ∧
                ∀ (d : Axis) (isOpen isClosed : Bool), isOpen = u.pins.far.getLsbD d.val → isClosed = u.pins.home.getLsbD d.val →
                  v.door d =
                    { state := if isOpen = isClosed then .fault else if isOpen then .open else .closed
                      members := if u.isDoor d then setOf (fun a => u.isGuarded d a && !u.pins.home.getLsbD a.val) allAxes else 0
                      pe := false
                      link := false
                      close := none
                      faultCount := 0
                      lastFault := if isOpen = isClosed then some ⟨.switches, u.now, none⟩ else (u.door d).lastFault
                      offEnd := none
                      release := !isOpen && !isClosed
                      drive := none
                      tripAt := none
                      openLost := none })))

/-! ## The Link Port -/

/-- Tier 1. Bytes and frames of the receive buffer (R189 to R191): hunting stores only the start byte; a byte in a frame is appended; a
complete good frame becomes a request, a QUEUE_FULL reply or a link error; a bad one, by a framing error or by what its bytes say, or a
gap is a link error. The end of a frame frees the transmitter; after the OK reply to SOFT_RESET it is the reset instant (R194, R200). At
the end of each the waiting requests that may be taken are taken (R191). That the end of that transmission and SOFT_RESET_INSTANT are
one event, and that the host's other request commands stand for a complete frame, are this model's readings (log entries 2 and 33). -/
def Obligations.LinkFrameCommands : Prop :=
  (∀ (dt : Nat) (s u : State), u = elapse dt s →
    (∀ b : Byte, u.lp.rx = .hunting → b ≠ 0xA5 → exec (.byteReceived dt b) s = .next (serve (arbitrate u))) ∧
      (u.lp.rx = .hunting →
        exec (.byteReceived dt 0xA5) s = .next (serve (arbitrate (u.modLp fun l => { l with rx := .inFrame [0xA5] u.now })))) ∧
      (∀ (b : Byte) (bytes : List Byte) (last : Nat), u.lp.rx = .inFrame bytes last →
        exec (.byteReceived dt b) s =
          .next (serve (arbitrate (u.modLp fun l => { l with rx := .inFrame (bytes ++ [b]) u.now })))) ∧
      (∀ (bytes : List Byte) (last : Nat), u.lp.rx = .inFrame bytes last → rxComplete bytes = true → rxBad bytes = false →
        exec (.frameReceived dt) s = .next (serve (arbitrate (receive (rxRequest bytes) (rxHunt u))))) ∧
      (∀ (framing : Bool) (bytes : List Byte) (last : Nat), u.lp.rx = .inFrame bytes last → framing = true ∨ rxBad bytes = true →
        exec (.badFrame dt framing) s = .next (serve (arbitrate (linkError (rxHunt u))))) ∧
      ∀ (bytes : List Byte) (last : Nat), u.lp.rx = .inFrame bytes last → last + 20001 ≤ u.now →
        exec (.frameGapTimeout dt) s = .next (serve (arbitrate (linkError (rxHunt u))))) ∧
  ∀ (dt : Nat) (tag : Byte) (s u : State), u = elapse dt s →
    (LinkReady s → exec (.softReset dt tag []) s = .next (arbitrate (placeReply ⟨0xA3, tag, .ok, []⟩ u))) ∧
      (u.lp.tx = .reply ⟨0xA3, tag, .ok, []⟩ →
        exec (.transmitEnd dt) s = .next (finish (softReset u)) ∧
          exec (.softResetInstant dt) s = .next (finish (softReset u))) ∧
      ((∀ r, u.lp.tx = .reply r → r.kind ≠ 0xA3) →
        exec (.transmitEnd dt) s = .next (finish (u.modLp fun l => { l with tx := .idle, transit := 0 })))

/-- Tier 2. An event kind is latched exactly where it is not masked; a level's new value enters the record, and its kind is latched at a
rise, or at a fall where its selection is BOTH, and where it is not masked (R195). -/
def Obligations.NoticesLatchUnlessMasked : Prop :=
  ∀ (s : State) (k : Kind) (v : Level) (on : Bool) (i : Nat), i < 24 →
    (raise k s).lp.latch.getLsbD i = (s.lp.latch.getLsbD i || (decide (i = k.num) && !s.lp.mask.getLsbD i)) ∧
      (setLevel v on s).lp.levels.getLsbD v.num = on ∧
      (setLevel v on s).lp.latch.getLsbD i =
        (s.lp.latch.getLsbD i ||
          (decide (i = v.kind.num) && s.lp.levels.getLsbD v.num != on && (on || s.lp.both.getLsbD v.num) &&
            !s.lp.mask.getLsbD i))

/-- Tier 1. Where no rule makes anything follow at the instant, an event ends with the transmitter arbiter and the requests that may now be
taken (R191, R194). The arbiter touches nothing but the replies, the transmitter, the latch set and the kinds in transit. That it acts at
the end of the event is this model's choice (log entries 6 and 9). -/
def Obligations.NothingDueLeavesTheArbiter : Prop :=
  ∀ s : State, (∀ i : Immediate, Immediate.due s i = false) →
    finish s = serve (arbitrate s) ∧ (s.lp.requests = [] → finish s = arbitrate s) ∧
      ∃ l : LinkPort, arbitrate s = { s with lp := l } ∧ l.requests = s.lp.requests ∧ l.rx = s.lp.rx ∧ l.mask = s.lp.mask ∧
        l.both = s.lp.both ∧ l.levels = s.lp.levels ∧ l.errors = s.lp.errors ∧ l.baud1 = s.lp.baud1 ∧ l.baud0 = s.lp.baud0

/-- Tier 2. A frame that the part writes is complete and good when read back by the rules of R189, for every kind below 0x80, every TAG
but 0 and every payload of at most 240 bytes, and carries the same request (11.1, 10.2). -/
def Obligations.FrameRoundTrip : Prop :=
  ∀ (kind tag : Byte) (payload : List Byte), kind.toNat < 0x80 → tag ≠ 0 → payload.length ≤ 240 →
    rxComplete (frameBytes kind tag payload) = true ∧ rxBad (frameBytes kind tag payload) = false ∧
      rxRequest (frameBytes kind tag payload) = ⟨kind, tag, payload⟩

/-! ## The Time Base and the Schedule Unit -/

/-- Tier 1. The start of a wall second (R2, R7) works off at most 1000 µs of slew: a positive remainder holds the field at 0, a negative
one starts it later; stated for a carry taken at its own microsecond. A carry that ends a day re-evaluates the season, and one that ends
the span begins the calendar again and clears the last-posted trigger record where the time-set flag is set (R2, R22, R30). A hold ends
at its instant and the field counts on (R7); the loss timer's expiry enters FREE_RUN, clears the slew and makes PPS_LOST true (R6). A
trigger whose posting instant is reached is handled and recorded (R27), and a held LINK head is examined at its instant (R33). That the
reading runs past the end of a second until the carry is handled, and how a posting instant is read, are this model's (log entries 11
and 12). -/
def Obligations.WallClockCommands : Prop :=
  (∀ (dt a sec r : Nat) (v : TimeBase) (s u : State), u = elapse dt s → u.tb.holdEnd = none →
    (u.tb.second + 1) * 1000000 = u.tb.reading → u.tb.reading ≤ 3155760000000000 →
    r = u.tb.reading % 3155760000000000 → sec = r / 1000000 →
    (u.tb.slew = 0 ∧ v = { u.tb with second := sec, reading := r }) ∨
      (0 < u.tb.slew ∧ (a : Int) = min u.tb.slew 1000 ∧
        v = { u.tb with second := sec, reading := r, slew := u.tb.slew - a, holdEnd := some (u.tb.counter + a) }) ∨
      (u.tb.slew < 0 ∧ (a : Int) = min (-u.tb.slew) 1000 ∧
        v = { u.tb with second := sec, reading := r + a, slew := u.tb.slew + a }) →
    exec (.wallSecondStart dt) s =
      .next (finish (
        if u.tb.reading % 86400000000 ≠ 0 then u.modTb fun _ => v
        else if u.tb.reading < 3155760000000000 ∨ u.tb.timeSet = false then evaluateSeason (u.modTb fun _ => v)
        else evaluateSeason ((u.modTb fun _ => v).modSu fun w => { w with record := .clearSince 0 })))) ∧
  ∀ (dt e n : Nat) (s u : State), u = elapse dt s →
    (u.tb.holdEnd = some e → e ≤ u.now →
      exec (.slewHoldEnd dt) s =
        .next (finish (u.modTb fun t => { t with holdEnd := none, reading := t.reading + (t.counter - e) }))) ∧
      (u.tb.discipline ≠ .freeRun → u.tb.prevEdge = some e → e + 3000000 < u.now →
        exec (.ppsLossTimeout dt) s =
          .next (finish (setLevel .ppsLost true (u.modTb fun t => { t with discipline := .freeRun, slew := 0 })))) ∧
      (nextTrigger u = some n → postingOf u n ≤ u.tb.reading →
        exec (.nextTriggerHandled dt) s = .next (finish (examineNewHead u (handleTrigger n u)))) ∧
      (heldHeadDue u = true → exec (.heldLinkHeadDue dt) s = .next (finish (examineQueue u)))

/-- Tier 1. A PPS edge moves the discipline by the table of R5, becomes the previous edge, clears PPS_LOST (R6), and is acted on only where
it leaves LOCKED standing. That a microsecond field past 999,999, whose carry is not yet handled, counts by its remainder is this model's
reading (log entry 11). -/
def Obligations.PpsEdgeMovesDiscipline : Prop :=
  ∀ (dt : Nat) (s u : State) (good : Bool) (offset : Int) (d : Discipline), u = elapse dt s →
    good = (match u.tb.prevEdge with
      | some p => decide (999000 ≤ u.now - p ∧ u.now - p ≤ 1001000)
      | none => false) →
    offset = (if microField u % 1000000 < 500000 then (microField u % 1000000 : Int) else microField u % 1000000 - 1000000) →
    d = (match u.tb.discipline, good with
      | .freeRun, _ => Discipline.acquiring
      | .acquiring, true => .locked
      | .acquiring, false => .acquiring
      | .locked, true => .locked
      | .locked, false => .acquiring) →
    ∃ v, v = setLevel .ppsLost false (u.modTb fun t =>
        { t with
          discipline := d
          prevEdge := some u.now
          lastOffset := some offset
          slew := if t.discipline = .locked ∧ d = .acquiring then 0 else t.slew }) ∧
      exec (.ppsEdge dt) s = .next (finish (if d = .locked then actOnOffset offset v else v))

/-- Tier 2. The wall clock is never stepped while the engine performs (R9): an offered step becomes the pending step and TIME_STEP_PENDING
is raised; otherwise it is applied at once, a HOST step sets the time-set flag, and no step stays pending. -/
def Obligations.StepsWaitForIdleEngine : Prop :=
  ∀ (delta : Int) (src : StepSource) (s : State),
    (s.performing = true →
      (offerStep delta src s).tb = { s.tb with pendingStep := some ⟨delta, src⟩ } ∧
        (s.lp.mask.getLsbD 15 = false → (offerStep delta src s).lp.latch.getLsbD 15 = true)) ∧
      (s.performing = false →
        (offerStep delta src s).tb.reading = ((s.tb.reading + delta) % 3155760000000000).toNat ∧
          (offerStep delta src s).tb.slew = 0 ∧ (offerStep delta src s).tb.holdEnd = none ∧
          (offerStep delta src s).tb.pendingStep = none ∧
          (offerStep delta src s).tb.timeSet = (s.tb.timeSet || src == .host))

/-- Tier 2. A reading is the number of its date and time, and a valid date and time is read back from its number (R2, R11). -/
def Obligations.CalendarRoundTrip : Prop :=
  (∀ r : Nat, r < 3155760000000000 → validDateTime (dateTimeOf r) = true ∧ readingOf (dateTimeOf r) = r) ∧
    ∀ t : DateTime, validDateTime t = true → readingOf t < 3155760000000000 ∧ dateTimeOf (readingOf t) = t

/-- Tier 2. An entry matches a date when it is enabled, the date's weekday is in its set, and the date's (month, day) pair lies within
its range, which wraps across the new year where its start stands after its end; a range of one day holds that day, an empty weekday set
matches nothing, and 29 February exists in leap years alone. The matching entry of highest priority, and among equals the one of lowest
index, gives the date its season and its programme; where none matches, the date has programme 0 and no season (R21). -/
def Obligations.ProgrammeOfADate : Prop :=
  ∀ (s : State) (d : Nat),
    let before (a b : Nat × Nat) : Prop := a.1 < b.1 ∨ a.1 = b.1 ∧ a.2 < b.2
    let first (e : SeasonEntry) : Nat × Nat := (e.startMonth, e.startDay)
    let last (e : SeasonEntry) : Nat × Nat := (e.endMonth, e.endDay)
    let inRange (e : SeasonEntry) : Prop :=
      (before (last e) (first e) → ¬ before (monthDayOf d) (first e) ∨ ¬ before (last e) (monthDayOf d)) ∧
        (¬ before (last e) (first e) → ¬ before (monthDayOf d) (first e) ∧ ¬ before (last e) (monthDayOf d))
    (∀ e : SeasonEntry,
      (e.matchesDay d = true ↔ e.enabled = true ∧ e.weekdays.getLsbD (weekdayOf d) = true ∧ inRange e) ∧
        (first e = last e → (inRange e ↔ monthDayOf d = first e)) ∧ (e.weekdays = 0 → e.matchesDay d = false)) ∧
      (monthDayOf d = (2, 29) → yearOfDay d % 4 = 0) ∧
      (∀ (i : Nat) (e : SeasonEntry), s.su.seasons[i]? = some e → e.matchesDay d = true →
        (∀ (j : Nat) (f : SeasonEntry), s.su.seasons[j]? = some f → f.matchesDay d = true →
          f.priority < e.priority ∨ f.priority = e.priority ∧ i ≤ j) →
        seasonOfDay s d = (some i, e.programme)) ∧
      ((∀ (i : Nat) (e : SeasonEntry), s.su.seasons[i]? = some e → e.matchesDay d = false) → seasonOfDay s d = (none, 0))

/-- Tier 2. A HOUR request at a full queue takes the place of the oldest QUARTER request, and in every other case a full queue keeps its
four requests (R32). While the directory is neither VALID nor PARTIAL, or the presentation state neither RUN nor QUIET, a handled trigger
posts nothing: it is counted SUPPRESSED unless its show is NONE, and the record names it (R27). Recomputing the next trigger there handles
every trigger whose posting instant is reached and posts none of them (R27, R40), with the prerolls R47 allows. -/
def Obligations.PostingKeepsFourRequests : Prop :=
  ∀ (r : ShowRequest) (s : State), s.su.queue.length ≤ 4 →
    (postRequest r s).su.queue.length ≤ 4 ∧
      (s.su.queue.length < 4 → (postRequest r s).su.queue = s.su.queue ++ [r]) ∧
      (∀ before q after, s.su.queue = before ++ q :: after → s.su.queue.length = 4 → r.origin = .hour →
        (∀ x ∈ before, x.origin ≠ .quarter) → q.origin = .quarter →
        (postRequest r s).su.queue = before ++ after ++ [r]) ∧
      (s.su.queue.length = 4 → r.origin ≠ .hour ∨ (∀ x ∈ s.su.queue, x.origin ≠ .quarter) →
        (postRequest r s).su.queue = s.su.queue ∧
          (postRequest r s).su.counters.droppedFull = satInc s.su.counters.droppedFull) ∧
      (s.partLocked = true ∨ s.presenting = false → ∀ t : Nat, handleTrigger t s = s.modSu fun u =>
        { u with
          record := .named t
          counters := if triggerShow s t = none then u.counters
            else { u.counters with suppressed := satInc u.counters.suppressed } }) ∧
      (s.presenting = false → (∀ e ∈ s.lu.directory, e.preroll ≤ 30000) →
        (recomputeTrigger s).su.queue = s.su.queue ∧
          ∀ n : Nat, nextTrigger (recomputeTrigger s) = some n → s.tb.reading < postingOf (recomputeTrigger s) n)

/-- Tier 2. Each step of the score's tempo lasts the right time on the average (R15): from an accumulator of 0, T divisions at one legal
tempo T last 62,500,000 µs together, and the accumulator is 0 again. -/
def Obligations.TempoRunIsExact : Prop :=
  ∀ (t d start : Nat) (y : Synth), 2000 ≤ t → t ≤ 24000 → y.tempo = t → y.divTempo = t → y.n = 62500000 / t →
    y.r = 62500000 % t → y.acc = 0 → y.ramp = none → y.boundary = some ⟨d, start⟩ →
    let division (x : Synth) : Synth :=
      match x.beginDivision.divEnd with
      | some e => x.beginDivision.nextBoundary e
      | none => x
    (Nat.iterate division t y).boundary = some ⟨d + t, start + 62500000⟩ ∧ (Nat.iterate division t y).acc = 0

/-- Tier 2. Every tempo of a ramp between two legal tempos is legal, and its last is the target (R18). -/
def Obligations.RampStaysLegal : Prop :=
  ∀ r : Ramp, 2000 ≤ r.t0 → r.t0 ≤ 24000 → 2000 ≤ r.target → r.target ≤ 24000 → 1 ≤ r.len →
    r.tempoAt r.len = r.target ∧ ∀ k, k ≤ r.len → 2000 ≤ r.tempoAt k ∧ r.tempoAt k ≤ 24000

/-! ## The Library Unit -/

/-- Tier 1. The end of a transfer of a walk, with the next trigger recomputed (R27), and the timeout of its status polling (R43 to R46).
The end of a transfer of a store operation, and its three timeouts, which end it as TIMEOUT (R55 to R57). -/
def Obligations.StorePortCommands : Prop :=
  (∀ (dt : Nat) (data : List Byte) (w : Walk) (s u : State), u = elapse dt s → u.lu.walk = some w →
    (u.lu.port = some ⟨.walk, w.phase.transfer, false⟩ → data.length = w.phase.transfer.returns →
      exec (.walkTransferEnd dt data) s =
        .next (finish (grantPort
          (match walkStep w.phase data (freePort u) with
          | (v, some reason) => endWalk reason (recomputeTrigger v)
          | (v, none) => recomputeTrigger v)))) ∧
      (∀ f : Nat, w.phase = .poll (some f) → f + 1000000 ≤ u.now →
        exec (.walkStatusTimeout dt) s = .next (finish (grantPort (modWalk (fun w => { w with phase := .header }) u))))) ∧
  ∀ (dt : Nat) (data : List Byte) (o : StoreOp) (t : Transfer) (s u : State), u = elapse dt s → u.lu.storeOp = some o →
    (u.lu.port = some ⟨.store, t, false⟩ → data.length = t.returns →
      exec (.storeTransferEnd dt data) s = .next (finish (grantPort (storeStep o data (freePort u))))) ∧
      (∀ f : Nat, o.phase = .poll (some f) → f + 1000000 ≤ u.now →
        exec (.storeBusyTimeout dt) s = .next (finish (endStoreOp o .timeout [] u))) ∧
      (∀ f : Nat, o.phase = .after f true → o.kind = .write → f + 10000 ≤ u.now →
        exec (.writeTimeout dt) s = .next (finish (endStoreOp o .timeout [] u))) ∧
      (∀ f : Nat, o.phase = .after f true → o.kind = .erase → f + 1000000 ≤ u.now →
        exec (.eraseTimeout dt) s = .next (finish (endStoreOp o .timeout [] u)))

/-! ## The Performance Engine -/

/-- Tier 1. PLAYING begins at the due count where the preparation is complete, and at the preparation limit whatever is not (R65). The
instants of a score (R15, R69, R74): the end of a division gives the next boundary, whose events are carried out; a wait's limit counts
WAIT_TIMEOUT and releases the boundary; a stall of 500 ms ends the performance as STORE_STALL. That a release is the event instant of the
events left at its boundary is this model's reading (log entry 78). -/
def Obligations.ScoreBeginsAndGoesOn : Prop :=
  (∀ (dt : Nat) (p : Performance) (s u : State), u = elapse dt s → u.pe.engine = .preparing → u.pe.perf = some p →
    (preparationComplete u = true → p.dueCount ≤ (u.now : Int) →
      exec (.dueCountReached dt) s = .next (finish (startPlaying u))) ∧
      (p.prepLimit ≤ (u.now : Int) → exec (.preparationLimit dt) s = .next (finish (startPlaying u)))) ∧
  ∀ (dt e : Nat) (s u : State), u = elapse dt s → e ≤ u.now →
    (u.pe.engine = .playing → u.tb.synth.divEnd = some e →
      exec (.divisionInstant dt) s = .next (finish (runEvents (u.modSynth (·.nextBoundary e))))) ∧
      (∀ (a : Axis) (met : Bool), u.pe.hold = .wait a e met →
        exec (.waitLimitExpiry dt) s = .next (finish (releaseHold (countWaitTimeout u)))) ∧
      (∀ since : Nat, u.pe.hold = .stall since → since + 500000 = e →
        exec (.stallTimeout dt) s = .next (finish (enterCoda .storeStall u)))

/-- Tier 1. The timers that end a performance (R77, R80). A prefetch read's bytes enter the ring as events (R42, R72), and the self-test
hands over its next bell at its instant (R86). The instants of the self-test's hand-overs are this model's reading of R86 (log entry
40). -/
def Obligations.PerformanceTimersAndHandoffs : Prop :=
  (∀ (dt e : Nat) (s u : State), u = elapse dt s → e ≤ u.now →
    (∀ p : Profile, u.lu.profile = some p → u.pe.engine = .coda → (∃ t, u.pe.codaStart = some t ∧
        t + p.codaTimeoutS * 1000000 = e) →
      exec (.codaTimeout dt) s = .next (finish (enterIdle (modPerf (fun p =>
        if p.result = some .completed then { p with result := some .codaTimeout } else p) u)))) ∧
      (u.pe.supplyTimer = some e →
        exec (.supplyTimerExpiry dt) s = .next (finish (abortToIdle .abortedSupply true u))) ∧
      (u.pe.thermalTimer = some e →
        exec (.thermalTimerExpiry dt) s = .next (finish (abortToIdle .abortedThermal true u)))) ∧
  ∀ (dt : Nat) (s u : State), u = elapse dt s →
    (∀ (a n : Nat) (data : List Byte), u.lu.port = some ⟨.prefetch, .read a n, false⟩ → data.length = n →
      exec (.prefetchReadEnd dt data) s = .next (finish (grantPort (fillRing a data (freePort u))))) ∧
      (∀ (b : Bell) (rest : List Bell), u.pe.engine = .selfTest → u.pe.selfTest.todo = b :: rest →
        u.pe.selfTest.start + 500000 * u.pe.selfTest.handed ≤ u.now →
        exec (.selfTestHandoff dt) s = .next (finish (handOver b rest u)))

/-- Tier 2. The log holds the 16 newest records, newest first, each carrying its performance's request, sequence number, result, flags and
counters, with its start instant and the instant of its end (R84). -/
def Obligations.LogKeepsNewestSixteen : Prop :=
  ∀ (p : Performance) (s : State), s.pe.perf = some p →
    ∃ r : LogRecord, (writeLog s).pe.log = (r :: s.pe.log).take 16 ∧ r.seq = p.seq ∧ r.id = p.request.id ∧
      r.origin = p.request.origin ∧ r.count = p.request.count ∧ r.mode = p.request.mode ∧ r.due = p.request.due ∧
      r.start = p.startWall ∧ r.finish = s.tb.reading ∧ r.result = p.result ∧ r.flags = p.flags ∧ r.fired = p.counters.fired ∧
      r.dropped = p.counters.dropped ∧ r.misses = p.counters.misses ∧ r.stalls = p.counters.stalls

/-! ## The Strike Unit -/

/-- Tier 1. The queue's instants examine the head (R94), and the ends of a pulse and of a recovery act (R100, R102, R113, R114). -/
def Obligations.StrikeInstants : Prop :=
  ∀ (dt : Nat) (b : Bell) (q : StrikeRequest) (rest : List StrikeRequest) (s u : State), u = elapse dt s →
    (u.st.queue = q :: rest → q.due ≤ u.now → exec (.strikeHeadDue dt) s = .next (finish (examineStrikes u))) ∧
      (u.st.queue = q :: rest → q.due + u.slack + 1 ≤ u.now →
        exec (.slackExpiry dt) s = .next (finish (examineStrikes u))) ∧
      ((u.chan b).state = .pulse → (u.chan b).pulseEnd ≤ u.now → (u.chan b).presenceSeen = true →
        exec (.pulseEnd dt b) s = .next (finish (endPulseClean b u))) ∧
      (∀ e : Nat, (u.chan b).state = .recovery → (u.chan b).recoveryEnd = some e → e ≤ u.now →
        exec (.recoveryEnd dt b) s = .next (finish (endRecovery b u))) ∧
      (∀ e : Nat, (u.chan b).state = .pulse → (u.chan b).tripAt = some e → e ≤ u.now →
        exec (.overCurrent dt b) s = .next (finish (bellOverCurrent b u))) ∧
      ((u.chan b).state = .pulse → (u.chan b).presenceJudged = false →
        min ((u.chan b).pulseStart + 2000) (u.chan b).pulseEnd ≤ u.now →
        exec (.presenceDeadline dt b) s =
          .next (finish (if (u.chan b).presenceSeen then u.modChan b fun c => { c with presenceJudged := true }
            else openCoil b u)))

/-- Tier 1. The timers of a channel and of its damper (R116, R121, R124), and the pickup (R126). A bell's comparators (R112): in a pulse,
HLIM becoming active starts the timing of a run and becoming inactive forgets it, and HPRS is seen; the pins keep their levels. -/
def Obligations.ChannelInputsAndTimers : Prop :=
  (∀ (dt e : Nat) (b : Bell) (s u : State), u = elapse dt s →
    ((u.chan b).state = .faultOff → (u.chan b).offEnd = some e → e ≤ u.now →
      exec (.bellOffTimeEnd dt b) s =
        .next (finish (examineStrikes (u.modChan b fun c => { c with state := .retryReady, offEnd := none })))) ∧
      (u.now % 100000 = 0 →
        exec (.decayTick dt) s = .next (finish (reportWarm (forEach decayBell allBells u)))) ∧
      ((u.chan b).dampEnd = some e → e ≤ u.now →
        exec (.dampEnd dt b) s = .next (finish (u.modChan b fun c => { c with dampEnd := none }))) ∧
      (∀ heard : Bool, (u.chan b).verification = .open e heard →
        exec (.pickupEdge dt b) s = .next (finish (u.modChan b fun c => { c with verification := .open e true }))) ∧
      (∀ heard : Bool, (u.chan b).verification = .open e heard → e ≤ u.now →
        exec (.verifyWindowEnd dt b) s =
          .next (finish (if (u.chan b).state = .pulse then u.modChan b fun c => { c with verification := .awaitingEnd heard }
            else verdict b heard u)))) ∧
  ∀ (dt : Nat) (b : Bell) (s u : State), u = elapse dt s → (u.chan b).state = .pulse →
    ((u.chan b).tripAt = none →
      exec (.hlimChange dt b true) s =
        .next (finish ((u.modPins fun p => { p with hlim := putBit p.hlim b.val true }).modChan b fun c =>
          { c with tripAt := some (u.now + blankingTime (u.bellProfile b).blankCode + 1) }))) ∧
      exec (.hlimChange dt b false) s =
        .next (finish ((u.modPins fun p => { p with hlim := putBit p.hlim b.val false }).modChan b fun c =>
          { c with tripAt := none })) ∧
      exec (.hprsActive dt b true) s =
        .next (finish ((u.modPins fun p => { p with hprs := putBit p.hprs b.val true }).modChan b fun c =>
          { c with presenceSeen := true }))

/-- Tier 2. An arriving request takes its place after every entry due no later and before every entry due later (R91): a queue in order
stays in order, and the other entries keep theirs. -/
def Obligations.StrikeQueueStaysInOrder : Prop :=
  ∀ (q : StrikeRequest) (l : List StrikeRequest), l.Pairwise (fun x y => x.due ≤ y.due) →
    (insertStrike q l).Pairwise (fun x y => x.due ≤ y.due) ∧
      ∃ before after, l = before ++ after ∧ insertStrike q l = before ++ q :: after ∧
        (∀ x ∈ before, x.due ≤ q.due) ∧ ∀ x ∈ after, q.due < x.due

/-- Tier 2. Stages 1 to 4 of the pulse computation (R103 to R106) at any heat estimate, and the bounds of its result: the width never
exceeds Wlim nor the heat room, so a firing from a heat estimate within Hmax never takes it above Hmax, and a pulse that is fired is never
shorter than Wmin (R106). At the nominal supply stage 2 changes nothing where the widths are in the order R50 asks. -/
def Obligations.PulseStaysWithinLimits : Prop :=
  ∀ (p : BellProfile) (vn vm velocity heat : Nat),
    let g := computeStages p vn vm velocity heat
    g.w0 = p.wmin + (p.wmax - p.wmin) * (velocity - 1) / 126 ∧
      g.vc = (if vm < 3 * vn / 4 then 3 * vn / 4 else if 5 * vn / 4 < vm then 5 * vn / 4 else vm) ∧
      g.w1 = (if p.wlim < g.w0 * vn * vn / (g.vc * g.vc) then p.wlim else g.w0 * vn * vn / (g.vc * g.vc)) ∧
      (0 < vn → vm = vn → g.w0 ≤ p.wlim → g.w1 = g.w0) ∧
      g.w2 = (if p.hmax ≤ heat then 0 else if p.hwarn ≤ heat then g.w1 * (p.hmax - heat) / (p.hmax - p.hwarn) else g.w1) ∧
      g.w3 = (if g.w2 < p.hmax - heat then g.w2 else p.hmax - heat) ∧
      g.w2 ≤ g.w1 ∧ g.w3 ≤ p.wlim ∧ g.w3 ≤ p.hmax - heat ∧ (heat ≤ p.hmax → heat + g.w3 ≤ p.hmax) ∧
      (thermalDrop p g = false → p.wmin ≤ g.w3)

/-- Tier 2. While a mute reason stands an arriving request is dropped as MUTED, and at a queue of 32 entries as OVERFLOW; neither
changes the queue. Any other is placed in the queue, and the head is examined where it is the one that arrived (R92). -/
def Obligations.ArrivalsAreDroppedOrPlaced : Prop :=
  ∀ (q : StrikeRequest) (s : State),
    (s.muted = true →
      (strikeArrives q s).st.queue = s.st.queue ∧
        (strikeArrives q s).st.counters.muted = satInc s.st.counters.muted ∧
        ((strikeArrives q s).chan q.bell).lastStrike =
          some ⟨q.origin, q.velocity, q.due, .dropped .muted, s.now, none, none⟩) ∧
      (s.muted = false → 32 ≤ s.st.queue.length →
        (strikeArrives q s).st.queue = s.st.queue ∧
          (strikeArrives q s).st.counters.overflow = satInc s.st.counters.overflow) ∧
      (s.muted = false → s.st.queue.length < 32 →
        (∀ e rest, s.st.queue = e :: rest → e.due ≤ q.due → strikeArrives q s = setStrikes (e :: insertStrike q rest) s) ∧
          (s.st.queue = [] ∨ (∃ e rest, s.st.queue = e :: rest ∧ q.due < e.due) →
            strikeArrives q s = examineStrikes (setStrikes (q :: s.st.queue) s)))

/-- Tier 2. An examination fires a head only when it is due, its bell present, its channel READY or RETRY_READY, the part not LOCKED, no
mute reason standing and the budget not exceeded (R95, R98), and drops it as LATE only when it is blocked (case 4 of R95) and more than the
slack past its due (R96). -/
def Obligations.HeadIsFiredOnlyWhenAdmitted : Prop :=
  ∀ (q : StrikeRequest) (s : State),
    (∀ g, judgeHead q s = .fire g →
      q.due ≤ s.now ∧ s.bellPresent q.bell = true ∧
        ((s.chan q.bell).state = .ready ∨ (s.chan q.bell).state = .retryReady) ∧ s.partLocked = false ∧
        s.muted = false ∧ ∃ p, s.lu.profile = some p ∧ s.st.sum + (s.bellProfile q.bell).current ≤ p.iBudget) ∧
      (∀ g, judgeHead q s = .drop .late g → headBlocked q s = true ∧ q.due + s.slack < s.now)

/-- Tier 2. Firing and ending a pulse keep the energized-current sum exact (R98): a firing adds the bell's current to it and to the
channel's record, enters PULSE for the width of its computation and releases the damper (R99). A clean end takes the recorded current back
and enters RECOVERY for Trec, and the head is then examined (R100); an end by over-current, open coil or halt takes it back too (R101). -/
def Obligations.EnergizedCurrentIsReleased : Prop :=
  ∀ (q : StrikeRequest) (g : Stages) (b : Bell) (k : PulseEndKind) (s : State),
    (fireStrike q g s).st.sum = s.st.sum + (s.bellProfile q.bell).current ∧
      ((fireStrike q g s).chan q.bell).admitted = (s.bellProfile q.bell).current ∧
      ((fireStrike q g s).chan q.bell).state = .pulse ∧
      ((fireStrike q g s).chan q.bell).pulseEnd = s.now + g.w3 ∧
      ((fireStrike q g s).chan q.bell).dampEnd = none ∧
      (cutPulse b k s).st.sum = s.st.sum - (s.chan b).admitted ∧ ((cutPulse b k s).chan b).admitted = 0 ∧
      ∃ v, endPulseClean b s = examineStrikes v ∧ v.st.sum = s.st.sum - (s.chan b).admitted ∧ (v.chan b).admitted = 0 ∧
        (v.chan b).state = .recovery ∧ (v.chan b).recoveryEnd = some (s.now + (s.bellProfile b).trec * 1000) ∧
        v.st.queue = s.st.queue

/-- Tier 2. Strikes touch nothing outside the Strike Unit but the current performance's counters and MUTED_PART, the results of a
self-test, and the latch set and levels of the Link Port: the frame of arrivals, examinations, pulse ends, recoveries, over-currents,
open coils, halts, damp commands, verdicts and decay. -/
def Obligations.StrikesTouchOnlyStrikes : Prop :=
  ∀ (q : StrikeRequest) (b : Bell) (heard cut : Bool) (s : State),
    OnlyStrikes s (strikeArrives q s) ∧ OnlyStrikes s (examineStrikes s) ∧ OnlyStrikes s (flushStrikes s) ∧
      OnlyStrikes s (endPulseClean b s) ∧ OnlyStrikes s (endRecovery b s) ∧ OnlyStrikes s (bellOverCurrent b s) ∧
      OnlyStrikes s (openCoil b s) ∧ OnlyStrikes s (haltPulse cut b s) ∧ OnlyStrikes s (haltDamper b s) ∧
      OnlyStrikes s (dampCommand b s) ∧ OnlyStrikes s (verdict b heard s) ∧ OnlyStrikes s (reportWarm (forEach decayBell allBells s))

/-! ## The Motion Unit -/

/-- Tier 1. A count, the end of a reversal's dead time and the end of a dwell (R135, R136, R142). A count that does not arrive moves the
position and chooses the duty anew, one that arrives stops the drive, sets the fault count to 0 and leaves the axis IDLE, and where its
target was a list step its dwell begins (R137); a count of a homing drive restarts the stall timer alone, and one in the dead time of a
reversal changes nothing. -/
def Obligations.CountReversalAndDwell : Prop :=
  ∀ (dt e : Nat) (a : Axis) (d : Drive) (s u : State), u = elapse dt s →
    (∀ (p : AxisProfile) (t : Target), u.axisProfile a = some p → (u.axis a).drive = some d → d.deadUntil = none →
      (u.axis a).state = .moving → (u.axis a).target = some t →
      (nextPosition p d.dir (u.axis a).position ≠ t.pos →
        exec (.axisCount dt a) s =
          .next (finish (u.modAxis a fun r =>
            { r with
              position := nextPosition p d.dir r.position
              drive := some { d with
                stallFrom := u.now
                duty := axisDuty p d.dir (nextPosition p d.dir r.position) t.pos } }))) ∧
        (nextPosition p d.dir (u.axis a).position = t.pos →
          ∃ v, v = (u.modAxis a fun r =>
              { r with
                position := t.pos
                drive := none
                tripAt := none
                state := .idle
                target := none
                held := false
                waitHoming := false
                faultCount := 0 }) ∧
            exec (.axisCount dt a) s =
              .next (finish (if t.source = .list then stepReached (dwellNext listFuel a) a v else v)))) ∧
      (∀ p : AxisProfile, u.axisProfile a = some p → (u.axis a).drive = some d → d.deadUntil = none → (u.axis a).state = .homing →
        exec (.axisCount dt a) s = .next (finish (u.modAxis a fun r => { r with drive := some { d with stallFrom := u.now } }))) ∧
      ((u.axis a).drive = some d → d.deadUntil.isSome = true → exec (.axisCount dt a) s = .next (finish u)) ∧
      ((u.axis a).drive = some d → d.deadUntil = some e → e ≤ u.now → (u.door a).drive = none →
        exec (.reversalEnd dt a) s =
          .next (finish (u.modAxis a fun r => { r with drive := some { d with deadUntil := none } }))) ∧
      ((u.axis a).state = .dwelling → (u.axis a).dwellEnd = some e → e ≤ u.now →
        exec (.dwellEnd dt a) s = .next (finish (dwellNext listFuel a u)))

/-- Tier 1. The switches of figures and doors (R140, R149, R160, R161): a homing axis meets its home switch; a LINEAR axis driven forward
meets its far switch, stated where its door record neither is OPEN nor opens; a closing door meets its CLOSED switch and an opening one its
OPEN switch; the absence of an open door's OPEN switch is timed, and forgotten at its return; a home switch that becomes inactive does
nothing by itself. That the rows carry the new level of a switch is this model's reading (log entry 30); that a LINEAR axis in the dead
time of a reversal to forward faults at once is its choice (log entry 64). -/
def Obligations.SwitchCommands : Prop :=
  ∀ (dt : Nat) (a : Axis) (s u : State), u = elapse dt s →
    (u.isDoor a = false → (u.axis a).state = .homing →
      exec (.homeSwitchChange dt a true) s =
        .next (finish (endHoming a (u.modPins fun p => { p with home := putBit p.home a.val true })))) ∧
      exec (.homeSwitchChange dt a false) s = .next (finish (u.modPins fun p => { p with home := putBit p.home a.val false })) ∧
      (∀ p : AxisProfile, u.axisProfile a = some p → p.kind = .linear → (u.door a).state ≠ .opening → (u.door a).state ≠ .open →
        (∃ d, (u.axis a).drive = some d ∧ d.dir = .forward) →
        exec (.farSwitchActive dt a true) s =
          .next (finish (axisFault .limit a (u.modPins fun p => { p with far := putBit p.far a.val true })))) ∧
      (u.isDoor a = true → (u.door a).state = .closing →
        exec (.doorSwitchChange dt a .closed true) s =
          .next (finish (enterClosed a ((u.modPins fun p => { p with home := putBit p.home a.val true }).modDoor a fun r =>
            { r with faultCount := 0 })))) ∧
      (∀ p : AxisProfile, u.axisProfile a = some p → p.kind = .door → (u.door a).state = .opening →
        exec (.doorSwitchChange dt a .open true) s =
          .next (finish (enterOpen a ((u.modPins fun p => { p with far := putBit p.far a.val true }).modDoor a fun r =>
            { r with faultCount := 0 })))) ∧
      (u.isDoor a = true → (u.door a).state = .open →
        ((u.door a).openLost = none →
          exec (.doorSwitchChange dt a .open false) s =
            .next (finish ((u.modPins fun p => { p with far := putBit p.far a.val false }).modDoor a fun r =>
              { r with openLost := some u.now }))) ∧
          exec (.doorSwitchChange dt a .open true) s =
            .next (finish ((u.modPins fun p => { p with far := putBit p.far a.val true }).modDoor a fun r => { r with openLost := none })))

/-- Tier 1. The watches of a drive end in a fault (R148, R149, R161): no count for the stall window, no arrival for the travel timeout,
ALIM active for longer than the blanking time. The off-time ends of axes and doors, and the lost OPEN switch of an open door (R150,
R161). -/
def Obligations.DriveWatchesAndOffTimes : Prop :=
  (∀ (dt e : Nat) (a : Axis) (p : AxisProfile) (d : Drive) (s u : State), u = elapse dt s → u.axisProfile a = some p →
    ((u.axis a).drive = some d → (u.axis a).tripAt = none → (u.door a).drive = none → (u.door a).tripAt = none →
      exec (.alimChange dt a true) s =
        .next (finish ((u.modPins fun p => { p with alim := putBit p.alim a.val true }).modAxis a fun r =>
          { r with tripAt := some (u.now + blankingTime p.blankCode + 1) }))) ∧
      ((u.axis a).drive = some d → d.stallFrom + p.stallWindow * 1000 ≤ u.now →
        exec (.axisStall dt a) s = .next (finish (axisFault .stall a u))) ∧
      ((u.axis a).drive = some d → d.start + p.travelTimeout * 1000000 ≤ u.now →
        exec (.travelTimeout dt a) s = .next (finish (axisFault .timeout a u))) ∧
      ((u.axis a).drive = some d → (u.axis a).tripAt = some e → e ≤ u.now →
        exec (.axisOvercurrent dt a) s = .next (finish (axisFault .overcurrent a u))) ∧
      ((u.door a).drive = some d → d.start + p.travelTimeout * 1000000 ≤ u.now →
        exec (.doorTimeout dt a) s = .next (finish (countDoorFault a (doorFault .timeout none a u)))) ∧
      ((u.door a).drive = some d → (u.door a).tripAt = some e → e ≤ u.now →
        exec (.doorOvercurrent dt a) s = .next (finish (doorOverCurrent a u)))) ∧
  ∀ (dt e : Nat) (a : Axis) (s u : State), u = elapse dt s → e ≤ u.now →
    ((u.axis a).state = .faultOff → (u.axis a).offEnd = some e →
      exec (.axisOffTimeEnd dt a) s = .next (finish (u.modAxis a AxisRecord.endOffTime))) ∧
      (u.isDoor a = true → (u.door a).state = .open → (∃ t, (u.door a).openLost = some t ∧ t + 200001 = e) →
        exec (.switchLost dt a) s = .next (finish (countDoorFault a (doorFault .switchLost none a u)))) ∧
      ((u.door a).offEnd = some e →
        exec (.doorOffTimeEnd dt a) s = .next (finish (u.modDoor a fun r => { r with offEnd := none, release := true })))

/-- Tier 2. Each count brings a driven figure one count nearer (R136, R137): round the revolution of a ROTARY axis in either direction, and
along the track of a LINEAR axis toward its target; so the drive arrives after exactly its distance in counts. -/
def Obligations.CountsApproachTarget : Prop :=
  ∀ (p : AxisProfile) (dir : Direction) (pos t : Nat), pos ≠ t →
    (p.kind = .rotary → pos < p.size → t < p.size →
      axisDistance p dir (nextPosition p dir pos) t + 1 = axisDistance p dir pos t ∧ nextPosition p dir pos < p.size) ∧
      (p.kind = .linear → dir = axisDirection p pos t →
        axisDistance p dir (nextPosition p dir pos) t + 1 = axisDistance p dir pos t) ∧
      (p.kind = .rotary → p.policy = .shortest → dir = axisDirection p pos t → pos < p.size → t < p.size →
        2 * axisDistance p dir pos t ≤ p.size)

/-- Tier 2. A follower's target (R146): MIRROR gives (c − t) mod c on a ROTARY axis and L − t on a LINEAR one, lies in the revolution or on
the track, and mirrors back to its leader's; SAME passes the leader's position, and HOME is passed as position 0 with its source. -/
def Obligations.FollowerTargetsMirror : Prop :=
  ∀ (p : AxisProfile) (t : Target),
    (t.source = .home → followerTarget p t = ⟨0, .home, none⟩) ∧
      (t.source ≠ .home → p.follow = .same → followerTarget p t = ⟨t.pos, .leader, none⟩) ∧
      (t.source ≠ .home → p.follow = .mirror → p.kind = .rotary → t.pos < p.size →
        ((followerTarget p t).pos : Int) = ((p.size : Int) - t.pos) % p.size ∧ (followerTarget p t).source = .leader ∧
          (followerTarget p t).pose = none ∧ (followerTarget p t).pos < p.size ∧
          (followerTarget p ⟨(followerTarget p t).pos, t.source, none⟩).pos = t.pos) ∧
      (t.source ≠ .home → p.follow = .mirror → p.kind = .linear → t.pos ≤ p.size →
        ((followerTarget p t).pos : Int) = (p.size : Int) - t.pos ∧ (followerTarget p t).source = .leader ∧
          (followerTarget p t).pose = none ∧ (followerTarget p t).pos ≤ p.size ∧
          (followerTarget p ⟨(followerTarget p t).pos, t.source, none⟩).pos = t.pos)

/-- Tier 2. A target given while a halt reason stands or the part is LOCKED, to an absent axis, or in FAULT_OFF, LOCKED_OUT or
UNREFERENCED without a home request, is dropped (R134, R138): the count of dropped targets rises, a dropped list step ends its runner
(R142), and nothing else in the part changes, so that no follower is given one either. That the list runner ends on every dropped list
step is this model's reading (log entry 46). -/
def Obligations.BarredTargetsAreDropped : Prop :=
  ∀ (t : Target) (a : Axis) (s : State),
    s.halted = true ∨ s.partLocked = true ∨ s.isFigure a = false ∨ (s.axis a).state = .faultOff ∨ (s.axis a).state = .lockedOut ∨
      ((s.axis a).state = .unreferenced ∧ (s.axis a).homeRequest = false) →
    give t a s = (s.modAxis a fun r =>
      { r with dropped := satInc r.dropped, runner := if t.source = .list then none else r.runner })

/-- Tier 2. What a fault leaves (R148 to R150): no drive, no target, no runner, the count raised to at most 3, FAULT_OFF with its off-time
only with autoretry and a count of 1 or 2, LOCKED_OUT otherwise, and the reference lost by STALL and TIMEOUT alone. -/
def Obligations.AxisFaultLeaves : Prop :=
  ∀ (p : AxisProfile) (k : AxisFaultKind) (now : Nat) (r : AxisRecord),
    let f := r.fault p k now
    f.drive = none ∧ f.target = none ∧ f.runner = none ∧ f.faultCount = min (r.faultCount + 1) 3 ∧
      (∃ trip, f.lastFault = some ⟨k, now, trip⟩ ∧ (k ≠ .overcurrent → trip = none)) ∧
      (p.autoretry = true → r.faultCount < 2 → f.state = .faultOff ∧ f.offEnd = some (now + retryOffTime p.retryCode)) ∧
      (p.autoretry = false ∨ 2 ≤ r.faultCount → f.state = .lockedOut ∧ f.offEnd = none) ∧
      (k = .overcurrent ∨ k = .limit → f.referenced = r.referenced ∧ f.position = r.position) ∧
      (k = .stall ∨ k = .timeout → f.referenced = false)

/-- Tier 2. Motion touches nothing outside the Motion Unit but the engine's hold and the latch set of the Link Port: the frame of targets,
homing, counts, faults, demands, parks and all that follows of them. -/
def Obligations.MotionTouchesOnlyMotion : Prop :=
  ∀ (t : Target) (a : Axis) (k : AxisFaultKind) (set : AxisSet) (f : DoorRecord → DoorRecord) (s : State),
    OnlyMotion s (give t a s) ∧ OnlyMotion s (countAxis a s) ∧ OnlyMotion s (dwellNext listFuel a s) ∧
      OnlyMotion s (axisFault k a s) ∧ OnlyMotion s (endHoming a s) ∧ OnlyMotion s (demandDoors set f s) ∧
      OnlyMotion s (doorOverCurrent a s) ∧ OnlyMotion s (settleMotion s) ∧ OnlyMotion s (park s)

/-! ## The Supervision Unit -/

/-- Tier 1. The button, the lamp and the hatch (R167, R169). -/
def Obligations.ServiceInputs : Prop :=
  ∀ (dt e : Nat) (s u : State), u = elapse dt s → e ≤ u.now →
    (u.pins.serviceReq = true → u.sv.reqArmed = true → u.sv.reqFrom + 50000 = e →
      exec (.servicePress dt) s = .next (finish (press (u.modSv fun v => { v with reqArmed := false })))) ∧
      (u.pins.serviceReq = false →
        exec (.serviceReqChange dt true) s =
          .next (finish ((u.modPins fun p => { p with serviceReq := true }).modSv fun v =>
            { v with
              reqFrom := u.now
              reqArmed := v.reqSinceReset || decide (v.reqFrom + 50000 ≤ u.now)
              reqSinceReset := false }))) ∧
      (∀ on : Bool, u.sv.lamp = .blink on e →
        exec (.lampToggle dt) s = .next (finish (u.modSv fun v => { v with lamp := .blink (!on) (e + 500000) }))) ∧
      (u.sv.hatchOpen = false →
        exec (.hatchOpening dt) s =
          .next (finish (openHatch ((u.modPins fun p => { p with hatchOpen := true }).modSv fun v =>
            { v with hatchClosedFrom := none })))) ∧
      (u.pins.hatchOpen = true → u.sv.hatchOpen = true →
        exec (.hatchShowsClosed dt) s =
          .next (finish ((u.modPins fun p => { p with hatchOpen := false }).modSv fun v =>
            { v with hatchClosedFrom := some u.now }))) ∧
      ((∃ t, u.sv.hatchClosedFrom = some t ∧ t + 50000 = e) →
        exec (.hatchClosed dt) s =
          .next (finish (u.modSv fun v => { v with hatchOpen := false, hatchClosedFrom := none })))

/-- Tier 1. The monitors' samples and the CODE input (R176, R178, R179, R181), each at its instants of the counter. That a supply sample is
given in microvolts is this model's choice (log entry 31). SET_CODES with codes that pass its checks sets both codes by their low bits,
restarts both detectors, and in MANUAL mode removes HUSH (R183). -/
def Obligations.MonitorSamplesAndCodes : Prop :=
  (∀ (dt : Nat) (s u : State), u = elapse dt s →
    (∀ v : Nat, u.now % 1000 = 0 →
      exec (.supplySample dt v) s = .next (finish (takeSample (min (v * 20 / 10000) 5000) u))) ∧
      (∀ t : Int, u.now % 10000 = 0 → -40 ≤ t → t ≤ 200 →
        exec (.dieReading dt t) s = .next (finish (takeDieReading t u))) ∧
      (∀ high : Bool, u.now % 1000 = 500 →
        exec (.codeBit dt high) s =
          .next (finish (u.modSv fun v =>
            { v with hushCode := v.hushCode.takeBit high, releaseCode := v.releaseCode.takeBit high }))) ∧
      (u.sv.hushCode.blockOver = true →
        exec (.codeBlockEnd dt) s = .next (finish (endBlocks u)))) ∧
  ∀ (dt : Nat) (tag hush release : Byte) (l m : Byte) (s u : State), u = elapse dt s → LinkReady s →
    codesOk hush l.toNat release m.toNat = true →
    (exec (.setCodes dt tag [hush, l, release, m, 0]) s =
      .next (conclude (placeReply ⟨0x8F, tag, .ok, []⟩ (removeReason .hush (reportCodes (u.modSv fun w =>
        { w with
          hushCode := Detector.restarted (lowBits hush l.toNat) l.toNat
          releaseCode := Detector.restarted (lowBits release m.toNat) m.toNat
          codeMode := .manual })))))) ∧
      exec (.setCodes dt tag [hush, l, release, m, 1]) s =
        .next (conclude (placeReply ⟨0x8F, tag, .ok, []⟩ (reportCodes (u.modSv fun w =>
          { w with
            hushCode := Detector.restarted (lowBits hush l.toNat) l.toNat
            releaseCode := Detector.restarted (lowBits release m.toNat) m.toNat
            codeMode := .auto }))))

/-- Tier 2. The supply table applied until no row matches (R177), with thresholds in the order R50 asks and not closer than its two
hysteresis steps: below Vuv it ends in LOCKOUT whatever the state, at Vwarn + 20 and Vuv + 50 or more in NORMAL, and it ends where no row
matches. -/
def Obligations.SupplyTableSettles : Prop :=
  ∀ (vwarn vuv vm : Nat) (st : SupplyState), vuv < vwarn →
    supplyRow vwarn vuv vm (repeatTable (supplyRow vwarn vuv vm) 4 st) = none ∧
      (vm < vuv → repeatTable (supplyRow vwarn vuv vm) 4 st = .lockout) ∧
      (vwarn + 20 ≤ vm → vuv + 50 ≤ vm → repeatTable (supplyRow vwarn vuv vm) 4 st = .normal)

/-- Tier 2. A stream that repeats a code exactly passes the first block after a restart, whichever rotation it begins with, and a steady
line fails it, for every code SET_CODES takes (R180). -/
def Obligations.CodeBlocksPassAndFail : Prop :=
  ∀ (code : Byte) (len r : Nat), codeOk code len = true → r < len →
    (∀ bits : List Bool, bits = (List.range 50).map (fun i => (codeBits code len).getD ((i + r) % len) false) →
      (bits.foldl (fun d b => d.takeBit b) (Detector.restarted code len)).passes = true) ∧
      ∀ level : Bool, ((List.replicate 50 level).foldl (fun d b => d.takeBit b) (Detector.restarted code len)).passes = false

/-- Tier 2. The mute reason set holds each reason at most once (R172): adding a member changes nothing, removing a reason that is none
leaves the set as it is, and the first halt reason, be it SUPPLY, SERVICE or THERMAL, leaves no pulse, no damper and no motor energized
(R174), THERMAL also after the performance it ends (R80): every pulse gives its current back and its channel enters RECOVERY for Trec, with
its fault count and its trial flag kept (R101, R117). The SUPPLY of a walk that ends NONE (R177), where it is the first, leaves no damper
and no motor energized; by the free value of log entry 52 it also cuts every pulse so, or leaves every pulse, with its end and its admitted
current, as it was (R110); a recovery runs on either way. In a state that meets the invariants, a standing halt reason means that no damper
and no motor is energized, and no hammer coil either unless R110 left a pulse (R174; the free values of log entries 52 and 79), and a
figure's switched gate means an OPEN guard door (R164). -/
def Obligations.HaltReasonTakesPower : Prop :=
  ∀ (r : MuteReason) (s : State),
    let cutAsHalt (b : Bell) (t : State) : Prop :=
      (t.chan b).state = .recovery ∧ (t.chan b).admitted = 0 ∧ (t.chan b).recoveryEnd = some (s.now + (s.bellProfile b).trec * 1000) ∧
        (t.chan b).faultCount = (s.chan b).faultCount ∧ (t.chan b).trial = (s.chan b).trial
    let leftAlone (b : Bell) (t : State) : Prop :=
      (t.chan b).state = (s.chan b).state ∧ (t.chan b).pulseEnd = (s.chan b).pulseEnd ∧ (t.chan b).admitted = (s.chan b).admitted ∧
        (t.chan b).recoveryEnd = (s.chan b).recoveryEnd
    (s.sv.mute.has r = true → addReason r s = s) ∧
      (s.sv.mute.has r = false → (removeReason r s).sv = s.sv) ∧
      (addReason r s).sv.mute.has r = true ∧ (removeReason r s).sv.mute.has r = false ∧
      (∀ x : MuteReason, x ≠ r →
        (addReason r s).sv.mute.has x = s.sv.mute.has x ∧ (removeReason r s).sv.mute.has x = s.sv.mute.has x) ∧
      (s.halted = false → r = .supply ∨ r = .service ∨ r = .thermal → MotionSafe s → StrikeSafe s →
        let t := addReason r s
        t.halted = true ∧ Deenergized t ∧ ∀ b : Bell, (s.chan b).state = .pulse → cutAsHalt b t) ∧
      (let t := lockOutSupply s
       t.sv.supply = .lockout ∧ t.sv.mute.supply = true ∧ (s.sv.mute.supply = true → t.st = s.st) ∧
        (∀ b : Bell, (s.chan b).state ≠ .pulse → leftAlone b t) ∧
        (s.halted = false →
          if Config.walkEndCutsPulses = true then ∀ b : Bell, (s.chan b).state = .pulse → cutAsHalt b t
          else t.st.sum = s.st.sum ∧ ∀ b : Bell, leftAlone b t) ∧
        (MotionSafe s → StrikeSafe s → DampersAndMotorsOff t)) ∧
      (MotionSafe s → StrikeSafe s →
        (s.halted = true → if haltHasCut s = true then Deenergized s else DampersAndMotorsOff s) ∧
          ∀ (d a : Axis) (dir : Direction), s.isGuarded d a = true → ((s.axis a).drive.any (·.gate dir)) = true →
            (s.door d).state = .open)

/-! ## Resets -/

/-- Tier 1. The synthesizer after both resets (R20). -/
def Obligations.SynthesizerAfterReset : Prop :=
  ∀ (b1 b0 : Bool) (s : State),
    let fresh (y : Synth) : Prop :=
      y.running = false ∧ y.boundary = none ∧ y.divEnd = none ∧ y.tempo = 12000 ∧ y.n = 5208 ∧ y.r = 4000 ∧ y.acc = 0 ∧ y.ramp = none
    fresh (powerOn b1 b0 s).tb.synth ∧ fresh (softReset s).tb.synth ∧ fresh State.reset.tb.synth

/-- Tier 1. POWER_ON_RESET gives every block its reset value and samples the straps, which choose the bit rate (R188); with every input
inactive and both straps low it is the state this model starts from (R13, R40, R61, R89, R111, R133, R156, R187, R195). The levels of
the pins and straps at the state this model starts from, that pins keep them, and that the waiting commands, which are the model's own,
are kept are its choices (log entries 3, 4, 47 and 48). -/
def Obligations.PowerOnGivesResetState : Prop :=
  (∀ (b1 b0 : Bool) (s : State), exec (.powerOnReset b1 b0) s = .next (powerOn b1 b0 s)) ∧
    (∀ s : State, s.pins = Pins.reset → s.pending = [] → powerOn false false s = State.reset) ∧
    (∀ (b1 b0 : Bool) (s : State), let t := powerOn b1 b0 s
      t.tb.counter = 0 ∧ t.tb.reading = 0 ∧ t.tb.timeSet = false ∧ t.tb.discipline = .freeRun ∧ t.su.queue = [] ∧
        t.su.record = .clearSince 0 ∧ t.lu.dirState = .scanning ∧ t.lu.profile = none ∧ t.pe.engine = .idle ∧ t.pe.log = [] ∧
        t.st.queue = [] ∧ t.st.sum = 0 ∧ (∀ b : Bell, t.chan b = Channel.reset) ∧ (∀ a : Axis, t.axis a = AxisRecord.reset) ∧
        t.sv.mute = ⟨false, false, true, s.pins.hatchOpen, false⟩ ∧
        t.sv.presentation = (if s.pins.hatchOpen then .service else .locked) ∧
        t.lp.levels = 0x84 ∧ t.lp.latch = 0 ∧ t.lp.baud1 = b1 ∧ t.lp.baud0 = b0 ∧ t.pins = s.pins ∧ t.pending = s.pending ∧
        t.lp.bitRate = (if b1 then (if b0 then 460800 else 230400) else if b0 then 115200 else 57600))

/-- Tier 1. What a soft reset keeps (R3, R13, R61, R111, R133): the counter, the time-set flag, the discipline, the working profile, and
the heat and thermal state of every bell, while every channel is READY; a pending step is applied. -/
def Obligations.SoftResetKeeps : Prop :=
  ∀ s : State, let t := softReset s
    t.tb.counter = s.tb.counter ∧ t.tb.discipline = s.tb.discipline ∧ t.tb.prevEdge = s.tb.prevEdge ∧
      t.tb.lastOffset = s.tb.lastOffset ∧ t.tb.pendingStep = none ∧
      (s.tb.pendingStep = none → t.tb.reading = s.tb.reading ∧ t.tb.slew = s.tb.slew ∧ t.tb.holdEnd = s.tb.holdEnd ∧
        t.tb.timeSet = s.tb.timeSet) ∧
      (∀ p, s.tb.pendingStep = some p →
        t.tb.reading = ((s.tb.reading + p.delta) % 3155760000000000).toNat ∧ t.tb.slew = 0 ∧ t.tb.holdEnd = none ∧
          t.tb.timeSet = (s.tb.timeSet || p.source == .host) ∧ t.lp.latch.getLsbD 16 = true) ∧
      t.lu.profile = s.lu.profile ∧
      ∀ b : Bell, (t.chan b).heat = (s.chan b).heat ∧ (t.chan b).warm = (s.chan b).warm ∧ (t.chan b).state = .ready

/-- Tier 1. The state after reset meets the invariants, and is ready for a request. -/
def Obligations.ResetMeetsInvariants : Prop :=
  MotionSafe State.reset ∧ StrikeSafe State.reset ∧ CurrentSafe State.reset ∧ HeatSafe State.reset ∧ QueueSafe State.reset ∧
    LinkSafe State.reset ∧ LinkReady State.reset

/-! ## Invariants that every step keeps -/

/-- Tier 3. Every step keeps the Motion Unit's invariant: motors run only in a driving state, never while a halt reason stands or the part
is LOCKED, and those of a guarded figure only while its door is OPEN (R52, R164, R174). -/
def Obligations.EveryStepKeepsMotionSafe : Prop :=
  ∀ s t : State, MotionSafe s → step s = .next t → MotionSafe t

/-- Tier 3. Every step keeps the Strike Unit's invariant: no pulse while a halt reason stands, save one that R110 left at a walk which ended
NONE, no energized damper while a halt reason stands, an empty strike queue while any mute reason stands, never more than 32 entries, and
always in due order (R91, R92, R93, R174). Whether such a pulse was left, and whether a later halt reason cuts it, are the free values of
log entries 52 and 79. -/
def Obligations.EveryStepKeepsStrikeSafe : Prop :=
  ∀ s t : State, StrikeSafe s → step s = .next t → StrikeSafe t

/-- Tier 3. Every step keeps the energized-current sum equal to the admitted currents that the channels in PULSE hold, and no other channel
holds one (R98). -/
def Obligations.EveryStepKeepsCurrentSafe : Prop :=
  ∀ s t : State, CurrentSafe s → step s = .next t → CurrentSafe t

/-- Tier 3. Every step keeps the heat estimate of every bell of the working profile at or below its Hmax (R106, R51). -/
def Obligations.EveryStepKeepsHeatSafe : Prop :=
  ∀ s t : State, HeatSafe s → step s = .next t → HeatSafe t

/-- Tier 3. Every step keeps the show queue at 4 requests or fewer, and empty outside RUN and QUIET (R35). -/
def Obligations.EveryStepKeepsQueueSafe : Prop :=
  ∀ s t : State, QueueSafe s → step s = .next t → QueueSafe t

/-- Tier 3. Every step keeps the Link Port's invariant: at most 4 requests and 8 replies are queued, a request waits only behind 2
replies or more, and an idle transmitter leaves no reply and no latched kind waiting (R191, R192, R194). That the arbiter and the taking
of requests act at the end of each command is this model's choice (log entries 2 and 6). -/
def Obligations.EveryStepKeepsLinkSafe : Prop :=
  ∀ s t : State, LinkSafe s → step s = .next t → LinkSafe t

/-- Tier 3. Every command answers a next state. Every command but POWER_ON_RESET moves the microsecond counter by its own time alone and
does not clear the time-set flag (R1, R3), and leaves the commands that wait, which are the model's own (log entry 47), as they are. -/
def Obligations.EveryCommandKeepsTheClock : Prop :=
  ∀ (c : Instr) (s : State), ∃ t, exec c s = .next t ∧
    ((∀ b1 b0, c ≠ .powerOnReset b1 b0) → ClockKept c.elapsed s t)

end
end

