-- ==== Sys2Proof/Decode.lean ====
section
/-! DEFINITION. The command a word spells by the bits of the opcode table. The table of this block gives no row any bits: its commands are
requests of the link, whose frames `Machine/Link.lean` and `Machine/Operands.lean` read, and events. -/

namespace Sys2Proof

/-- No word spells a command. -/
def decodeTableWord (_nbits _w : Nat) : Option Instr := none

end Sys2Proof
end

