-- ==== Sys2Proof/Laws/State.lean ====
section
/-! SUPPORT. What each update of the state leaves and changes, field by field: small lemmas true by `rfl`, so that no proof unfolds a record
update. -/

namespace Sys2Proof.Machine

/-! ## `modTb` -/

@[simp] theorem modTb_tb (f : TimeBase → TimeBase) (s : State) : (s.modTb f).tb = f s.tb := rfl
@[simp] theorem modTb_su (f : TimeBase → TimeBase) (s : State) : (s.modTb f).su = s.su := rfl
@[simp] theorem modTb_lu (f : TimeBase → TimeBase) (s : State) : (s.modTb f).lu = s.lu := rfl
@[simp] theorem modTb_pe (f : TimeBase → TimeBase) (s : State) : (s.modTb f).pe = s.pe := rfl
@[simp] theorem modTb_st (f : TimeBase → TimeBase) (s : State) : (s.modTb f).st = s.st := rfl
@[simp] theorem modTb_mu (f : TimeBase → TimeBase) (s : State) : (s.modTb f).mu = s.mu := rfl
@[simp] theorem modTb_sv (f : TimeBase → TimeBase) (s : State) : (s.modTb f).sv = s.sv := rfl
@[simp] theorem modTb_lp (f : TimeBase → TimeBase) (s : State) : (s.modTb f).lp = s.lp := rfl
@[simp] theorem modTb_pins (f : TimeBase → TimeBase) (s : State) : (s.modTb f).pins = s.pins := rfl
@[simp] theorem modTb_pending (f : TimeBase → TimeBase) (s : State) : (s.modTb f).pending = s.pending := rfl

/-! ## `modSu` -/

@[simp] theorem modSu_tb (f : ScheduleUnit → ScheduleUnit) (s : State) : (s.modSu f).tb = s.tb := rfl
@[simp] theorem modSu_su (f : ScheduleUnit → ScheduleUnit) (s : State) : (s.modSu f).su = f s.su := rfl
@[simp] theorem modSu_lu (f : ScheduleUnit → ScheduleUnit) (s : State) : (s.modSu f).lu = s.lu := rfl
@[simp] theorem modSu_pe (f : ScheduleUnit → ScheduleUnit) (s : State) : (s.modSu f).pe = s.pe := rfl
@[simp] theorem modSu_st (f : ScheduleUnit → ScheduleUnit) (s : State) : (s.modSu f).st = s.st := rfl
@[simp] theorem modSu_mu (f : ScheduleUnit → ScheduleUnit) (s : State) : (s.modSu f).mu = s.mu := rfl
@[simp] theorem modSu_sv (f : ScheduleUnit → ScheduleUnit) (s : State) : (s.modSu f).sv = s.sv := rfl
@[simp] theorem modSu_lp (f : ScheduleUnit → ScheduleUnit) (s : State) : (s.modSu f).lp = s.lp := rfl
@[simp] theorem modSu_pins (f : ScheduleUnit → ScheduleUnit) (s : State) : (s.modSu f).pins = s.pins := rfl
@[simp] theorem modSu_pending (f : ScheduleUnit → ScheduleUnit) (s : State) : (s.modSu f).pending = s.pending := rfl

/-! ## `modLu` -/

@[simp] theorem modLu_tb (f : LibraryUnit → LibraryUnit) (s : State) : (s.modLu f).tb = s.tb := rfl
@[simp] theorem modLu_su (f : LibraryUnit → LibraryUnit) (s : State) : (s.modLu f).su = s.su := rfl
@[simp] theorem modLu_lu (f : LibraryUnit → LibraryUnit) (s : State) : (s.modLu f).lu = f s.lu := rfl
@[simp] theorem modLu_pe (f : LibraryUnit → LibraryUnit) (s : State) : (s.modLu f).pe = s.pe := rfl
@[simp] theorem modLu_st (f : LibraryUnit → LibraryUnit) (s : State) : (s.modLu f).st = s.st := rfl
@[simp] theorem modLu_mu (f : LibraryUnit → LibraryUnit) (s : State) : (s.modLu f).mu = s.mu := rfl
@[simp] theorem modLu_sv (f : LibraryUnit → LibraryUnit) (s : State) : (s.modLu f).sv = s.sv := rfl
@[simp] theorem modLu_lp (f : LibraryUnit → LibraryUnit) (s : State) : (s.modLu f).lp = s.lp := rfl
@[simp] theorem modLu_pins (f : LibraryUnit → LibraryUnit) (s : State) : (s.modLu f).pins = s.pins := rfl
@[simp] theorem modLu_pending (f : LibraryUnit → LibraryUnit) (s : State) : (s.modLu f).pending = s.pending := rfl

/-! ## `modPe` -/

@[simp] theorem modPe_tb (f : PerformanceEngine → PerformanceEngine) (s : State) : (s.modPe f).tb = s.tb := rfl
@[simp] theorem modPe_su (f : PerformanceEngine → PerformanceEngine) (s : State) : (s.modPe f).su = s.su := rfl
@[simp] theorem modPe_lu (f : PerformanceEngine → PerformanceEngine) (s : State) : (s.modPe f).lu = s.lu := rfl
@[simp] theorem modPe_pe (f : PerformanceEngine → PerformanceEngine) (s : State) : (s.modPe f).pe = f s.pe := rfl
@[simp] theorem modPe_st (f : PerformanceEngine → PerformanceEngine) (s : State) : (s.modPe f).st = s.st := rfl
@[simp] theorem modPe_mu (f : PerformanceEngine → PerformanceEngine) (s : State) : (s.modPe f).mu = s.mu := rfl
@[simp] theorem modPe_sv (f : PerformanceEngine → PerformanceEngine) (s : State) : (s.modPe f).sv = s.sv := rfl
@[simp] theorem modPe_lp (f : PerformanceEngine → PerformanceEngine) (s : State) : (s.modPe f).lp = s.lp := rfl
@[simp] theorem modPe_pins (f : PerformanceEngine → PerformanceEngine) (s : State) : (s.modPe f).pins = s.pins := rfl
@[simp] theorem modPe_pending (f : PerformanceEngine → PerformanceEngine) (s : State) : (s.modPe f).pending = s.pending := rfl

/-! ## `modSt` -/

@[simp] theorem modSt_tb (f : StrikeUnit → StrikeUnit) (s : State) : (s.modSt f).tb = s.tb := rfl
@[simp] theorem modSt_su (f : StrikeUnit → StrikeUnit) (s : State) : (s.modSt f).su = s.su := rfl
@[simp] theorem modSt_lu (f : StrikeUnit → StrikeUnit) (s : State) : (s.modSt f).lu = s.lu := rfl
@[simp] theorem modSt_pe (f : StrikeUnit → StrikeUnit) (s : State) : (s.modSt f).pe = s.pe := rfl
@[simp] theorem modSt_st (f : StrikeUnit → StrikeUnit) (s : State) : (s.modSt f).st = f s.st := rfl
@[simp] theorem modSt_mu (f : StrikeUnit → StrikeUnit) (s : State) : (s.modSt f).mu = s.mu := rfl
@[simp] theorem modSt_sv (f : StrikeUnit → StrikeUnit) (s : State) : (s.modSt f).sv = s.sv := rfl
@[simp] theorem modSt_lp (f : StrikeUnit → StrikeUnit) (s : State) : (s.modSt f).lp = s.lp := rfl
@[simp] theorem modSt_pins (f : StrikeUnit → StrikeUnit) (s : State) : (s.modSt f).pins = s.pins := rfl
@[simp] theorem modSt_pending (f : StrikeUnit → StrikeUnit) (s : State) : (s.modSt f).pending = s.pending := rfl

/-! ## `modMu` -/

@[simp] theorem modMu_tb (f : MotionUnit → MotionUnit) (s : State) : (s.modMu f).tb = s.tb := rfl
@[simp] theorem modMu_su (f : MotionUnit → MotionUnit) (s : State) : (s.modMu f).su = s.su := rfl
@[simp] theorem modMu_lu (f : MotionUnit → MotionUnit) (s : State) : (s.modMu f).lu = s.lu := rfl
@[simp] theorem modMu_pe (f : MotionUnit → MotionUnit) (s : State) : (s.modMu f).pe = s.pe := rfl
@[simp] theorem modMu_st (f : MotionUnit → MotionUnit) (s : State) : (s.modMu f).st = s.st := rfl
@[simp] theorem modMu_mu (f : MotionUnit → MotionUnit) (s : State) : (s.modMu f).mu = f s.mu := rfl
@[simp] theorem modMu_sv (f : MotionUnit → MotionUnit) (s : State) : (s.modMu f).sv = s.sv := rfl
@[simp] theorem modMu_lp (f : MotionUnit → MotionUnit) (s : State) : (s.modMu f).lp = s.lp := rfl
@[simp] theorem modMu_pins (f : MotionUnit → MotionUnit) (s : State) : (s.modMu f).pins = s.pins := rfl
@[simp] theorem modMu_pending (f : MotionUnit → MotionUnit) (s : State) : (s.modMu f).pending = s.pending := rfl

/-! ## `modSv` -/

@[simp] theorem modSv_tb (f : SupervisionUnit → SupervisionUnit) (s : State) : (s.modSv f).tb = s.tb := rfl
@[simp] theorem modSv_su (f : SupervisionUnit → SupervisionUnit) (s : State) : (s.modSv f).su = s.su := rfl
@[simp] theorem modSv_lu (f : SupervisionUnit → SupervisionUnit) (s : State) : (s.modSv f).lu = s.lu := rfl
@[simp] theorem modSv_pe (f : SupervisionUnit → SupervisionUnit) (s : State) : (s.modSv f).pe = s.pe := rfl
@[simp] theorem modSv_st (f : SupervisionUnit → SupervisionUnit) (s : State) : (s.modSv f).st = s.st := rfl
@[simp] theorem modSv_mu (f : SupervisionUnit → SupervisionUnit) (s : State) : (s.modSv f).mu = s.mu := rfl
@[simp] theorem modSv_sv (f : SupervisionUnit → SupervisionUnit) (s : State) : (s.modSv f).sv = f s.sv := rfl
@[simp] theorem modSv_lp (f : SupervisionUnit → SupervisionUnit) (s : State) : (s.modSv f).lp = s.lp := rfl
@[simp] theorem modSv_pins (f : SupervisionUnit → SupervisionUnit) (s : State) : (s.modSv f).pins = s.pins := rfl
@[simp] theorem modSv_pending (f : SupervisionUnit → SupervisionUnit) (s : State) : (s.modSv f).pending = s.pending := rfl

/-! ## `modLp` -/

@[simp] theorem modLp_tb (f : LinkPort → LinkPort) (s : State) : (s.modLp f).tb = s.tb := rfl
@[simp] theorem modLp_su (f : LinkPort → LinkPort) (s : State) : (s.modLp f).su = s.su := rfl
@[simp] theorem modLp_lu (f : LinkPort → LinkPort) (s : State) : (s.modLp f).lu = s.lu := rfl
@[simp] theorem modLp_pe (f : LinkPort → LinkPort) (s : State) : (s.modLp f).pe = s.pe := rfl
@[simp] theorem modLp_st (f : LinkPort → LinkPort) (s : State) : (s.modLp f).st = s.st := rfl
@[simp] theorem modLp_mu (f : LinkPort → LinkPort) (s : State) : (s.modLp f).mu = s.mu := rfl
@[simp] theorem modLp_sv (f : LinkPort → LinkPort) (s : State) : (s.modLp f).sv = s.sv := rfl
@[simp] theorem modLp_lp (f : LinkPort → LinkPort) (s : State) : (s.modLp f).lp = f s.lp := rfl
@[simp] theorem modLp_pins (f : LinkPort → LinkPort) (s : State) : (s.modLp f).pins = s.pins := rfl
@[simp] theorem modLp_pending (f : LinkPort → LinkPort) (s : State) : (s.modLp f).pending = s.pending := rfl

/-! ## `modPins` -/

@[simp] theorem modPins_tb (f : Pins → Pins) (s : State) : (s.modPins f).tb = s.tb := rfl
@[simp] theorem modPins_su (f : Pins → Pins) (s : State) : (s.modPins f).su = s.su := rfl
@[simp] theorem modPins_lu (f : Pins → Pins) (s : State) : (s.modPins f).lu = s.lu := rfl
@[simp] theorem modPins_pe (f : Pins → Pins) (s : State) : (s.modPins f).pe = s.pe := rfl
@[simp] theorem modPins_st (f : Pins → Pins) (s : State) : (s.modPins f).st = s.st := rfl
@[simp] theorem modPins_mu (f : Pins → Pins) (s : State) : (s.modPins f).mu = s.mu := rfl
@[simp] theorem modPins_sv (f : Pins → Pins) (s : State) : (s.modPins f).sv = s.sv := rfl
@[simp] theorem modPins_lp (f : Pins → Pins) (s : State) : (s.modPins f).lp = s.lp := rfl
@[simp] theorem modPins_pins (f : Pins → Pins) (s : State) : (s.modPins f).pins = f s.pins := rfl
@[simp] theorem modPins_pending (f : Pins → Pins) (s : State) : (s.modPins f).pending = s.pending := rfl

/-! ## `modChan` -/

@[simp] theorem modChan_tb (i : Bell) (f : Channel → Channel) (s : State) : (s.modChan i f).tb = s.tb := rfl
@[simp] theorem modChan_su (i : Bell) (f : Channel → Channel) (s : State) : (s.modChan i f).su = s.su := rfl
@[simp] theorem modChan_lu (i : Bell) (f : Channel → Channel) (s : State) : (s.modChan i f).lu = s.lu := rfl
@[simp] theorem modChan_pe (i : Bell) (f : Channel → Channel) (s : State) : (s.modChan i f).pe = s.pe := rfl
@[simp] theorem modChan_mu (i : Bell) (f : Channel → Channel) (s : State) : (s.modChan i f).mu = s.mu := rfl
@[simp] theorem modChan_sv (i : Bell) (f : Channel → Channel) (s : State) : (s.modChan i f).sv = s.sv := rfl
@[simp] theorem modChan_lp (i : Bell) (f : Channel → Channel) (s : State) : (s.modChan i f).lp = s.lp := rfl
@[simp] theorem modChan_pins (i : Bell) (f : Channel → Channel) (s : State) : (s.modChan i f).pins = s.pins := rfl
@[simp] theorem modChan_pending (i : Bell) (f : Channel → Channel) (s : State) : (s.modChan i f).pending = s.pending := rfl

/-! ## `modAxis` -/

@[simp] theorem modAxis_tb (i : Axis) (f : AxisRecord → AxisRecord) (s : State) : (s.modAxis i f).tb = s.tb := rfl
@[simp] theorem modAxis_su (i : Axis) (f : AxisRecord → AxisRecord) (s : State) : (s.modAxis i f).su = s.su := rfl
@[simp] theorem modAxis_lu (i : Axis) (f : AxisRecord → AxisRecord) (s : State) : (s.modAxis i f).lu = s.lu := rfl
@[simp] theorem modAxis_pe (i : Axis) (f : AxisRecord → AxisRecord) (s : State) : (s.modAxis i f).pe = s.pe := rfl
@[simp] theorem modAxis_st (i : Axis) (f : AxisRecord → AxisRecord) (s : State) : (s.modAxis i f).st = s.st := rfl
@[simp] theorem modAxis_sv (i : Axis) (f : AxisRecord → AxisRecord) (s : State) : (s.modAxis i f).sv = s.sv := rfl
@[simp] theorem modAxis_lp (i : Axis) (f : AxisRecord → AxisRecord) (s : State) : (s.modAxis i f).lp = s.lp := rfl
@[simp] theorem modAxis_pins (i : Axis) (f : AxisRecord → AxisRecord) (s : State) : (s.modAxis i f).pins = s.pins := rfl
@[simp] theorem modAxis_pending (i : Axis) (f : AxisRecord → AxisRecord) (s : State) : (s.modAxis i f).pending = s.pending := rfl

/-! ## `modDoor` -/

@[simp] theorem modDoor_tb (i : Axis) (f : DoorRecord → DoorRecord) (s : State) : (s.modDoor i f).tb = s.tb := rfl
@[simp] theorem modDoor_su (i : Axis) (f : DoorRecord → DoorRecord) (s : State) : (s.modDoor i f).su = s.su := rfl
@[simp] theorem modDoor_lu (i : Axis) (f : DoorRecord → DoorRecord) (s : State) : (s.modDoor i f).lu = s.lu := rfl
@[simp] theorem modDoor_pe (i : Axis) (f : DoorRecord → DoorRecord) (s : State) : (s.modDoor i f).pe = s.pe := rfl
@[simp] theorem modDoor_st (i : Axis) (f : DoorRecord → DoorRecord) (s : State) : (s.modDoor i f).st = s.st := rfl
@[simp] theorem modDoor_sv (i : Axis) (f : DoorRecord → DoorRecord) (s : State) : (s.modDoor i f).sv = s.sv := rfl
@[simp] theorem modDoor_lp (i : Axis) (f : DoorRecord → DoorRecord) (s : State) : (s.modDoor i f).lp = s.lp := rfl
@[simp] theorem modDoor_pins (i : Axis) (f : DoorRecord → DoorRecord) (s : State) : (s.modDoor i f).pins = s.pins := rfl
@[simp] theorem modDoor_pending (i : Axis) (f : DoorRecord → DoorRecord) (s : State) : (s.modDoor i f).pending = s.pending := rfl

/-! ## The passing of time -/

@[simp] theorem elapse_su (dt : Nat) (s : State) : (elapse dt s).su = s.su := rfl
@[simp] theorem elapse_lu (dt : Nat) (s : State) : (elapse dt s).lu = s.lu := rfl
@[simp] theorem elapse_pe (dt : Nat) (s : State) : (elapse dt s).pe = s.pe := rfl
@[simp] theorem elapse_st (dt : Nat) (s : State) : (elapse dt s).st = s.st := rfl
@[simp] theorem elapse_mu (dt : Nat) (s : State) : (elapse dt s).mu = s.mu := rfl
@[simp] theorem elapse_sv (dt : Nat) (s : State) : (elapse dt s).sv = s.sv := rfl
@[simp] theorem elapse_lp (dt : Nat) (s : State) : (elapse dt s).lp = s.lp := rfl
@[simp] theorem elapse_pins (dt : Nat) (s : State) : (elapse dt s).pins = s.pins := rfl
@[simp] theorem elapse_pending (dt : Nat) (s : State) : (elapse dt s).pending = s.pending := rfl
@[simp] theorem elapse_tb_second (dt : Nat) (s : State) : (elapse dt s).tb.second = s.tb.second := rfl
@[simp] theorem elapse_tb_holdEnd (dt : Nat) (s : State) : (elapse dt s).tb.holdEnd = s.tb.holdEnd := rfl
@[simp] theorem elapse_tb_timeSet (dt : Nat) (s : State) : (elapse dt s).tb.timeSet = s.tb.timeSet := rfl
@[simp] theorem elapse_tb_discipline (dt : Nat) (s : State) : (elapse dt s).tb.discipline = s.tb.discipline := rfl
@[simp] theorem elapse_tb_prevEdge (dt : Nat) (s : State) : (elapse dt s).tb.prevEdge = s.tb.prevEdge := rfl
@[simp] theorem elapse_tb_lastOffset (dt : Nat) (s : State) : (elapse dt s).tb.lastOffset = s.tb.lastOffset := rfl
@[simp] theorem elapse_tb_slew (dt : Nat) (s : State) : (elapse dt s).tb.slew = s.tb.slew := rfl
@[simp] theorem elapse_tb_pendingStep (dt : Nat) (s : State) : (elapse dt s).tb.pendingStep = s.tb.pendingStep := rfl
@[simp] theorem elapse_tb_synth (dt : Nat) (s : State) : (elapse dt s).tb.synth = s.tb.synth := rfl
@[simp] theorem elapse_now (dt : Nat) (s : State) : (elapse dt s).now = s.now + dt := rfl
@[simp] theorem elapse_counter (dt : Nat) (s : State) : (elapse dt s).tb.counter = s.tb.counter + dt := rfl

/-! ## The queue of commands -/

@[simp] theorem withPending_tb (l : List Instr) (s : State) : (s.withPending l).tb = s.tb := rfl
@[simp] theorem withPending_su (l : List Instr) (s : State) : (s.withPending l).su = s.su := rfl
@[simp] theorem withPending_lu (l : List Instr) (s : State) : (s.withPending l).lu = s.lu := rfl
@[simp] theorem withPending_pe (l : List Instr) (s : State) : (s.withPending l).pe = s.pe := rfl
@[simp] theorem withPending_st (l : List Instr) (s : State) : (s.withPending l).st = s.st := rfl
@[simp] theorem withPending_mu (l : List Instr) (s : State) : (s.withPending l).mu = s.mu := rfl
@[simp] theorem withPending_sv (l : List Instr) (s : State) : (s.withPending l).sv = s.sv := rfl
@[simp] theorem withPending_lp (l : List Instr) (s : State) : (s.withPending l).lp = s.lp := rfl
@[simp] theorem withPending_pins (l : List Instr) (s : State) : (s.withPending l).pins = s.pins := rfl
@[simp] theorem withPending_pending (l : List Instr) (s : State) : (s.withPending l).pending = l := rfl

/-! ## Notices -/

@[simp] theorem raise_tb (k : Kind) (s : State) : (raise k s).tb = s.tb := rfl
@[simp] theorem raise_su (k : Kind) (s : State) : (raise k s).su = s.su := rfl
@[simp] theorem raise_lu (k : Kind) (s : State) : (raise k s).lu = s.lu := rfl
@[simp] theorem raise_pe (k : Kind) (s : State) : (raise k s).pe = s.pe := rfl
@[simp] theorem raise_st (k : Kind) (s : State) : (raise k s).st = s.st := rfl
@[simp] theorem raise_mu (k : Kind) (s : State) : (raise k s).mu = s.mu := rfl
@[simp] theorem raise_sv (k : Kind) (s : State) : (raise k s).sv = s.sv := rfl
@[simp] theorem raise_pins (k : Kind) (s : State) : (raise k s).pins = s.pins := rfl
@[simp] theorem raise_pending (k : Kind) (s : State) : (raise k s).pending = s.pending := rfl
@[simp] theorem setLevel_tb (v : Level) (on : Bool) (s : State) : (setLevel v on s).tb = s.tb := rfl
@[simp] theorem setLevel_su (v : Level) (on : Bool) (s : State) : (setLevel v on s).su = s.su := rfl
@[simp] theorem setLevel_lu (v : Level) (on : Bool) (s : State) : (setLevel v on s).lu = s.lu := rfl
@[simp] theorem setLevel_pe (v : Level) (on : Bool) (s : State) : (setLevel v on s).pe = s.pe := rfl
@[simp] theorem setLevel_st (v : Level) (on : Bool) (s : State) : (setLevel v on s).st = s.st := rfl
@[simp] theorem setLevel_mu (v : Level) (on : Bool) (s : State) : (setLevel v on s).mu = s.mu := rfl
@[simp] theorem setLevel_sv (v : Level) (on : Bool) (s : State) : (setLevel v on s).sv = s.sv := rfl
@[simp] theorem setLevel_pins (v : Level) (on : Bool) (s : State) : (setLevel v on s).pins = s.pins := rfl
@[simp] theorem setLevel_pending (v : Level) (on : Bool) (s : State) : (setLevel v on s).pending = s.pending := rfl
@[simp] theorem linkError_tb (s : State) : (linkError s).tb = s.tb := rfl
@[simp] theorem linkError_su (s : State) : (linkError s).su = s.su := rfl
@[simp] theorem linkError_lu (s : State) : (linkError s).lu = s.lu := rfl
@[simp] theorem linkError_pe (s : State) : (linkError s).pe = s.pe := rfl
@[simp] theorem linkError_st (s : State) : (linkError s).st = s.st := rfl
@[simp] theorem linkError_mu (s : State) : (linkError s).mu = s.mu := rfl
@[simp] theorem linkError_sv (s : State) : (linkError s).sv = s.sv := rfl
@[simp] theorem linkError_pins (s : State) : (linkError s).pins = s.pins := rfl
@[simp] theorem linkError_pending (s : State) : (linkError s).pending = s.pending := rfl

/-! ## Records by number -/

@[simp] theorem modChan_chan_self (b : Bell) (f : Channel → Channel) (s : State) : (s.modChan b f).chan b = f (s.chan b) := by
  simp [State.modChan, State.chan, State.modSt]

theorem modChan_chan_ne {b c : Bell} (h : c ≠ b) (f : Channel → Channel) (s : State) : (s.modChan b f).chan c = s.chan c := by
  have : (b : Nat) ≠ c := fun e => h (Fin.ext e.symm)
  simp [State.modChan, State.chan, State.modSt, Vector.getElem_set_ne, this]

theorem modChan_chan (b c : Bell) (f : Channel → Channel) (s : State) :
    (s.modChan b f).chan c = if c = b then f (s.chan b) else s.chan c := by
  split
  · next h => subst h; simp
  · next h => exact modChan_chan_ne h f s

@[simp] theorem modAxis_axis_self (a : Axis) (f : AxisRecord → AxisRecord) (s : State) :
    (s.modAxis a f).axis a = f (s.axis a) := by
  simp [State.modAxis, State.axis, State.modMu]

theorem modAxis_axis_ne {a x : Axis} (h : x ≠ a) (f : AxisRecord → AxisRecord) (s : State) :
    (s.modAxis a f).axis x = s.axis x := by
  have : (a : Nat) ≠ x := fun e => h (Fin.ext e.symm)
  simp [State.modAxis, State.axis, State.modMu, Vector.getElem_set_ne, this]

theorem modAxis_axis (a x : Axis) (f : AxisRecord → AxisRecord) (s : State) :
    (s.modAxis a f).axis x = if x = a then f (s.axis a) else s.axis x := by
  split
  · next h => subst h; simp
  · next h => exact modAxis_axis_ne h f s

@[simp] theorem modAxis_door (a d : Axis) (f : AxisRecord → AxisRecord) (s : State) : (s.modAxis a f).door d = s.door d := rfl

@[simp] theorem modDoor_door_self (d : Axis) (f : DoorRecord → DoorRecord) (s : State) :
    (s.modDoor d f).door d = f (s.door d) := by
  simp [State.modDoor, State.door, State.modMu]

theorem modDoor_door_ne {d x : Axis} (h : x ≠ d) (f : DoorRecord → DoorRecord) (s : State) :
    (s.modDoor d f).door x = s.door x := by
  have : (d : Nat) ≠ x := fun e => h (Fin.ext e.symm)
  simp [State.modDoor, State.door, State.modMu, Vector.getElem_set_ne, this]

theorem modDoor_door (d x : Axis) (f : DoorRecord → DoorRecord) (s : State) :
    (s.modDoor d f).door x = if x = d then f (s.door d) else s.door x := by
  split
  · next h => subst h; simp
  · next h => exact modDoor_door_ne h f s

@[simp] theorem modDoor_axis (d a : Axis) (f : DoorRecord → DoorRecord) (s : State) : (s.modDoor d f).axis a = s.axis a := rfl

end Sys2Proof.Machine
end

