-- ==== Sys2Proof/Laws/Link.lean ====
section
/-! SUPPORT. What the link's shared operations do: a request on a ready link, the forms of a command's meaning, the arbiter, and the latch
set. -/

namespace Sys2Proof.Machine

/-! ## Requests -/

theorem LinkReady.elapse {s : State} (h : LinkReady s) (dt : Nat) : LinkReady (elapse dt s) := h

/-- A state is what it is with its own request queue put back. -/
theorem modLp_requests_self {s : State} (h : s.lp.requests = []) : s.modLp (fun l => { l with requests := [] }) = s := by
  cases s with
  | mk tb su lu pe st mu sv lp pins pending =>
    cases lp with
    | mk b1 b0 rx rq rp tx la tr ma bo le er =>
      simp only [State.modLp] at *
      subst h
      rfl

/-- A request received on a ready link is the one that waits. -/
theorem receive_ready (r : Request) {s : State} (h : LinkReady s) : receive r s = s.modLp fun l => { l with requests := [r] } := by
  simp [receive, h.1, State.modLp]

/-- Taken again, it leaves the state as it was. -/
theorem pop_receive_ready (r : Request) {s : State} (h : LinkReady s) : popRequest (receive r s) = s := by
  rw [receive_ready r h]
  simpa [popRequest, State.modLp] using modLp_requests_self h.1

/-- An idle transmitter with nothing to send stays idle. -/
theorem arbitrate_rest {s : State} (h : s.lp.tx = .idle → s.lp.replies = [] ∧ s.lp.latch = 0) : arbitrate s = s := by
  unfold arbitrate
  split
  · rfl
  · rfl
  · rename_i ht
    obtain ⟨hr, hl⟩ := h ht
    simp [hr, hl]

/-- On a ready link a request is taken at once: it is judged on the state as it stands, and its reply is formed (R191, R192). -/
theorem hostRequest_ready (dt : Nat) (kind tag : Byte) (p : List Byte) {s : State} (h : LinkReady s) :
    hostRequest dt kind tag p s = .next (reply ⟨kind, tag, p⟩ (judgeRequest ⟨kind, tag, p⟩ (elapse dt s))) := by
  have hu := h.elapse dt
  unfold hostRequest linkEvent
  rw [arbitrate_rest (s := receive _ _) (by rw [receive_ready _ hu]; exact hu.2.2)]
  have hp := pop_receive_ready ⟨kind, tag, p⟩ hu
  have hr : (receive ⟨kind, tag, p⟩ (elapse dt s)).lp.requests = [⟨kind, tag, p⟩] := by rw [receive_ready _ hu]; rfl
  have hn : (receive ⟨kind, tag, p⟩ (elapse dt s)).lp.replies.length < 2 := by rw [receive_ready _ hu]; exact hu.2.1
  simp only [serve, hr, List.length_cons, List.length_nil, Nat.zero_add, serveFor, hn, if_true, take, hp]

/-- A request whose length fits is answered by its own checks and effect. -/
theorem judge_fits {r : Request} (s : State) (hf : lengthFits r.kind r.payload = true) : judgeRequest r s = answerOf r s := by
  have hn : (requiredLength r.kind r.payload).isNone = false := by
    unfold lengthFits at hf
    cases hr : requiredLength r.kind r.payload with
    | none => simp [hr] at hf
    | some n => rfl
  simp [judgeRequest, hn, hf]

/-- A request that acts, from its answer at its instant. -/
theorem act_answers {dt : Nat} {kind tag : Byte} {p : List Byte} {s u t : State} {st : Status} {fields : List Field}
    (hu : u = elapse dt s) (h : LinkReady s) (hf : lengthFits kind p = true) (ha : actsOnTower kind = true) (hp : st.passes = true)
    (hb : answerOf ⟨kind, tag, p⟩ u = ⟨st, fields, t⟩) :
    hostRequest dt kind tag p s = .next (conclude (placeReply ⟨kind + 0x80, tag, st, fields⟩ t)) := by
  subst hu
  rw [hostRequest_ready dt kind tag p h, judge_fits _ hf, hb]
  simp [reply, ha, hp, replyKind]

/-- A request that only reads, or sets what is read later, from its answer at its instant. -/
theorem ask_answers {dt : Nat} {kind tag : Byte} {p : List Byte} {s u t : State} {st : Status} {fields : List Field}
    (hu : u = elapse dt s) (h : LinkReady s) (hf : lengthFits kind p = true) (ha : actsOnTower kind = false)
    (hb : answerOf ⟨kind, tag, p⟩ u = ⟨st, fields, t⟩) :
    hostRequest dt kind tag p s = .next (arbitrate (placeReply ⟨kind + 0x80, tag, st, fields⟩ t)) := by
  subst hu
  rw [hostRequest_ready dt kind tag p h, judge_fits _ hf, hb]
  simp [reply, ha, replyKind]

/-- A request that is refused, whatever its kind. -/
theorem refusal_answers {dt : Nat} {kind tag : Byte} {p : List Byte} {s u : State} {st : Status}
    (hu : u = elapse dt s) (h : LinkReady s) (hp : st.passes = false) (hb : judgeRequest ⟨kind, tag, p⟩ u = refuse st u) :
    hostRequest dt kind tag p s = .next (arbitrate (placeReply ⟨kind + 0x80, tag, st, []⟩ u)) := by
  subst hu
  rw [hostRequest_ready dt kind tag p h, hb]
  simp [reply, hp, replyKind, refuse]

/-- The meaning of an event, from its effect on the state at its instant. -/
theorem event_answers {dt : Nat} {s u r : State} (hu : u = elapse dt s) (effect : State → State) (hr : effect u = r) :
    event dt effect s = .next (finish r) := by
  subst hu hr; rfl

/-- The meaning of an event of the receiver, from its effect on the state at its instant. -/
theorem linkEvent_answers {dt : Nat} {s u r : State} (hu : u = elapse dt s) (effect : State → State) (hr : effect u = r) :
    linkEvent dt effect s = .next (serve (arbitrate r)) := by
  subst hu hr; rfl

/-! ## The request queue -/

/-- Where no request may be taken, none is (R191). -/
theorem serve_rest {s : State} (h : s.lp.requests = [] ∨ 2 ≤ s.lp.replies.length) : serve s = s := by
  unfold serve
  cases hr : s.lp.requests with
  | nil => rfl
  | cons r rest =>
    have hn : ¬ s.lp.replies.length < 2 := by
      rcases h with h | h
      · simp [hr] at h
      · omega
    simp [serveFor, hr, hn]

/-! ## The latch set -/

/-- Everything a raised kind can do (R195). -/
theorem raise_cases (k : Kind) (s : State) :
    raise k s = s ∨ raise k s = s.modLp fun l => { l with latch := putBit l.latch k.num true } := by
  unfold raise LinkPort.latchKind State.modLp
  by_cases h : s.lp.mask.getLsbD k.num
  · exact .inl (by simp [h])
  · exact .inr (by simp [h])

theorem LinkPort.latchKind_besideNotices (k : Kind) (l : LinkPort) : (l.latchKind k).besideNotices = l.besideNotices := by
  unfold LinkPort.latchKind
  split <;> rfl

/-- A level's report touches nothing but the levels and the latch set (R195). -/
theorem LinkPort.report_besideNotices (v : Level) (on : Bool) (l : LinkPort) : (l.report v on).besideNotices = l.besideNotices := by
  unfold LinkPort.report
  split
  · rfl
  · dsimp only
    split
    · rw [LinkPort.latchKind_besideNotices]; rfl
    · rfl

/-! ## The arbiter -/

/-- Everything the arbiter can do (R194). -/
theorem arbitrate_cases (s : State) :
    arbitrate s = s ∨
      (∃ r rest, s.lp.replies = r :: rest ∧ arbitrate s = s.modLp fun l => { l with tx := .reply r, replies := rest }) ∨
      ∃ fields, s.lp.replies = [] ∧
        arbitrate s = s.modLp fun l => { l with tx := .notice fields, transit := l.latch, latch := 0 } := by
  unfold arbitrate
  cases s.lp.tx with
  | reply r => exact .inl rfl
  | notice f => exact .inl rfl
  | idle =>
    cases hr : s.lp.replies with
    | cons r rest => exact .inr (.inl ⟨r, rest, rfl, rfl⟩)
    | nil =>
      by_cases h : s.lp.latch = 0
      · exact .inl (by simp [h])
      · exact .inr (.inr ⟨_, rfl, by simp only [h, if_false]; rfl⟩)

/-- The arbiter touches only the link port. -/
theorem arbitrate_only (s : State) : ∃ f, arbitrate s = s.modLp f := by
  rcases arbitrate_cases s with h | ⟨_, _, _, h⟩ | ⟨_, _, h⟩
  · exact ⟨id, by rw [h]; rfl⟩
  · exact ⟨_, h⟩
  · exact ⟨_, h⟩

end Sys2Proof.Machine
end

