-- ==== Sys2Proof/Laws/Ops.lean ====
section
/-! SUPPORT. Principles over the shared operations: what an update for each member keeps, what an examination of the strike queue, the
motion passes, the addition of a mute reason and the end of a command keep, and the frames of the single updates. A proof that every step
keeps a property proves it of the parts and cites these. -/

namespace Sys2Proof.Machine

/-! ## An update for each member -/

theorem forEach_keeps {α : Type} {P : State → Prop} {f : α → State → State} (hf : ∀ x s, P s → P (f x s)) :
    ∀ (l : List α) (s : State), P s → P (forEach f l s)
  | [], _, h => h
  | x :: l, s, h => forEach_keeps hf l (f x s) (hf x s h)

/-- What a home request leaves (R139). -/
theorem AxisRecord.giveHome_gives (r : AxisRecord) :
    r.giveHome.state = .unreferenced ∧ r.giveHome.homeRequest = true ∧ r.giveHome.referenced = false ∧ r.giveHome.drive = none ∧
      r.giveHome.tripAt = none ∧ r.giveHome.target = (if r.held then r.target else none) ∧
      r.giveHome.runner = (if r.held then r.runner else none) := by
  cases h : r.held <;> simp [AxisRecord.giveHome, AxisRecord.stop, AxisRecord.loseReference, h]

/-- One update of the record of each axis of a list. -/
theorem forEach_modAxis (f : AxisRecord → AxisRecord) (x : Axis) : ∀ (l : List Axis) (s : State), l.Nodup →
    (forEach (fun a s => s.modAxis a f) l s).axis x = if x ∈ l then f (s.axis x) else s.axis x
  | [], _, _ => rfl
  | a :: l, s, h => by
    obtain ⟨ha, hl⟩ := List.nodup_cons.mp h
    rw [forEach, forEach_modAxis f x l _ hl, modAxis_axis]
    by_cases hx : x = a
    · subst hx; simp [ha]
    · simp [hx]

theorem forFigures_keeps {P : State → Prop} {f : Axis → State → State} (hf : ∀ a s, s.isFigure a = true → P s → P (f a s)) {s : State}
    (h : P s) : P (forFigures f s) := by
  refine forEach_keeps (fun a s hs => ?_) allAxes s h
  split
  · exact hf a s (by assumption) hs
  · exact hs

theorem forGuarded_keeps {P : State → Prop} {d : Axis} {f : Axis → State → State}
    (hf : ∀ a s, s.isGuarded d a = true → P s → P (f a s)) {s : State} (h : P s) : P (forGuarded d f s) := by
  refine forEach_keeps (fun a s hs => ?_) allAxes s h
  split
  · exact hf a s (by assumption) hs
  · exact hs

theorem demandDoors_keeps {P : State → Prop} {set : AxisSet} {f : DoorRecord → DoorRecord}
    (hf : ∀ d s, P s → P (judgeDoor d ((syncMembers d s).modDoor d f))) {s : State} (h : P s) : P (demandDoors set f s) := by
  refine forEach_keeps (fun d s hs => ?_) allAxes s h
  split
  · exact hf d s hs
  · exact hs

/-! ## The strike queue's examinations (R94, R95) -/

/-- An examination does nothing but drop and fire heads and put the rest back. -/
theorem examineFrom_keeps {P : State → Prop} (hset : ∀ l s, P s → P (setStrikes l s))
    (hdrop : ∀ reason g q s, judgeHead q s = .drop reason g → P s → P (dropStrike reason g q s))
    (hfire : ∀ q g s, judgeHead q s = .fire g → P s → P (fireStrike q g s)) :
    ∀ (l : List StrikeRequest) (s : State), P s → P (examineFrom l s)
  | [], s, h => hset [] s h
  | q :: rest, s, h => by
    unfold examineFrom
    cases hj : judgeHead q s with
    | wait => exact hset (q :: rest) s h
    | drop reason g => exact examineFrom_keeps hset hdrop hfire rest _ (hdrop reason g q s hj h)
    | fire g => exact examineFrom_keeps hset hdrop hfire rest _ (hfire q g s hj h)

/-- What an examination leaves in the queue is a tail of what it found. -/
theorem examineFrom_queue : ∀ (l : List StrikeRequest) (s : State), ∃ n, (examineFrom l s).st.queue = l.drop n
  | [], _ => ⟨0, rfl⟩
  | q :: rest, s => by
    unfold examineFrom
    cases judgeHead q s with
    | wait => exact ⟨0, rfl⟩
    | drop reason g =>
      obtain ⟨n, hn⟩ := examineFrom_queue rest (dropStrike reason g q s)
      exact ⟨n + 1, hn⟩
    | fire g =>
      obtain ⟨n, hn⟩ := examineFrom_queue rest (fireStrike q g s)
      exact ⟨n + 1, hn⟩

theorem insertStrike_length (q : StrikeRequest) : ∀ l, (insertStrike q l).length = l.length + 1
  | [] => rfl
  | e :: rest => by
    unfold insertStrike
    split
    · simp [insertStrike_length q rest]
    · simp

/-! ## The mute reason set (R172 to R174) -/

/-- Everything a halt can do to a channel: it leaves it, or ends its pulse as HALT (R101, R117). -/
theorem haltPulse_cases (cut : Bool) (b : Bell) (s : State) :
    haltPulse cut b s = s ∨
      (s.chan b).state = .pulse ∧ cut = true ∧ haltPulse cut b s = enterRecovery b (cutPulse b .halt s) := by
  unfold haltPulse
  split
  · rename_i h; exact .inr ⟨h.1, h.2, rfl⟩
  · exact .inl rfl

/-- A halt that cuts nothing leaves every channel as it is. -/
@[simp] theorem haltPulse_false (b : Bell) (s : State) : haltPulse false b s = s := by simp [haltPulse]

/-- A halt keeps what the end of a pulse as HALT keeps. -/
theorem haltPulses_keeps {P : State → Prop} (hend : ∀ b s, (s.chan b).state = .pulse → P s → P (enterRecovery b (cutPulse b .halt s)))
    (cut : Bool) {s : State} (h : P s) : P (haltPulses cut s) := by
  refine forEach_keeps (fun b s hs => ?_) allBells s h
  obtain he | ⟨hp, -, he⟩ := haltPulse_cases cut b s
  · rw [he]; exact hs
  · rw [he]; exact hend b s hp hs

@[simp] theorem haltPulses_false (s : State) : haltPulses false s = s :=
  forEach_keeps (P := (· = s)) (fun b _ h => (haltPulse_false b _).trans h) allBells s rfl

/-- The first halt reason cuts the pulses as its adder says. -/
theorem haltCuts_first (first : Bool) {s : State} (h : s.halted = false) : haltCuts first s = first := by simp [haltCuts, h]

/-- The addition of a reason keeps what the membership, the flush, the end of a pulse as HALT, the rest of the halt and the engine's part
keep. -/
theorem addReasonWith_keeps {P : State → Prop} {first : Bool} (r : MuteReason) (hset : ∀ s, P s → P (setReason r true s))
    (hfirst : ∀ s, P s → P (firstReason s))
    (hend : r.isHalt = true → ∀ b s, (s.chan b).state = .pulse → P s → P (enterRecovery b (cutPulse b .halt s)))
    (htower : r.isHalt = true → ∀ s, P s → P (haltTower s)) (hengine : ∀ s, P s → P (reasonToEngine r s)) {s : State} (h : P s) :
    P (addReasonWith first r s) := by
  have hpulses : r.isHalt = true → ∀ cut s, P s → P (haltPulses cut s) := fun hr cut _ hs => haltPulses_keeps (hend hr) cut hs
  have h2 : P (if s.muted then setReason r true s else firstReason (setReason r true s)) := by
    split
    · exact hset s h
    · exact hfirst _ (hset s h)
  cases hr : r.isHalt with
  | false =>
    have hs : ((setReason r true s).halted && !s.halted) = false := by
      cases r with
      | operator | hush => exact Bool.and_not_self s.halted
      | supply | service | thermal => cases hr
    simp only [addReasonWith, hr, hs]
    split
    · exact h
    · exact hengine _ h2
  | true =>
    simp only [addReasonWith, hr, if_true]
    split
    · exact h
    · refine hengine _ ?_
      split
      · exact htower hr _ (hpulses hr _ _ h2)
      · exact hpulses hr _ _ h2

/-! ## Seasons and triggers -/

theorem notAfter_iff (a b : Nat × Nat) : notAfter a b = true ↔ a.1 < b.1 ∨ a.1 = b.1 ∧ a.2 ≤ b.2 := by simp [notAfter]

theorem handleTriggers_keeps {P : State → Prop} (h : ∀ s, P s → P (nextTriggerHandled s)) :
    ∀ (n : Nat) (s : State), P s → P (handleTriggers n s)
  | 0, _, hs => hs
  | n + 1, s, hs => handleTriggers_keeps h n _ (h s hs)

/-- Recomputing the next trigger keeps what each trigger's handling keeps (R27). -/
theorem recomputeTrigger_keeps {P : State → Prop} (h : ∀ s, P s → P (nextTriggerHandled s)) {s : State} (hs : P s) :
    P (recomputeTrigger s) := handleTriggers_keeps h _ s hs

/-- Everything the handling of the next trigger can do (R27, R33). -/
theorem nextTriggerHandled_cases (s : State) :
    nextTriggerHandled s = s ∨
      ∃ t, nextTrigger s = some t ∧ postingOf s t ≤ s.tb.reading ∧ nextTriggerHandled s = examineNewHead s (handleTrigger t s) := by
  unfold nextTriggerHandled
  cases h : dueTrigger s with
  | none => exact .inl rfl
  | some t =>
    obtain ⟨hn, hp⟩ := Option.filter_eq_some_iff.mp h
    exact .inr ⟨t, hn, of_decide_eq_true hp, rfl⟩

/-! ## What follows at once -/

theorem settleMotionFor_keeps {P : State → Prop} (hp : ∀ s, P s → P (motionPass s)) :
    ∀ (fuel : Nat) (s : State), P s → P (settleMotionFor fuel s)
  | 0, _, h => h
  | fuel + 1, s, h => by
    unfold settleMotionFor
    split
    · exact settleMotionFor_keeps hp fuel _ (hp s h)
    · exact h

/-- The four parts of a motion pass (R139, R158, R159, R162). -/
theorem motionPass_keeps {P : State → Prop} (hm : ∀ d s, P s → P (syncMembers d s))
    (hh : ∀ a s, mayHome s a = true → P s → P (beginHoming a s)) (hr : ∀ d s, P s → P (releaseDoor d s))
    (hj : ∀ d s, P s → P (judgeDoor d s)) {s : State} (h : P s) : P (motionPass s) := by
  unfold motionPass
  refine forEach_keeps (fun d s hs => hj d _ (hm d s hs)) _ _ (forEach_keeps (fun d s hs => ?_) _ _
    (forEach_keeps (fun a s hs => ?_) _ _ (forEach_keeps hm _ _ h)))
  · split
    · exact hr d _ (hm d s hs)
    · exact hs
  · split
    · exact hh a s (by assumption) hs
    · exact hs

theorem settleFor_keeps {P : State → Prop} (hi : ∀ (i : Immediate) s, Immediate.due s i = true → P s → P (i.act s)) :
    ∀ (fuel : Nat) (s : State), P s → P (settleFor fuel s)
  | 0, _, h => h
  | fuel + 1, s, h => by
    unfold settleFor
    cases hf : allImmediate.find? (Immediate.due s) with
    | none => exact h
    | some i => exact settleFor_keeps hi fuel _ (hi i s (List.find?_some hf) h)

theorem arbitrate_keeps {P : State → Prop} (hl : ∀ f s, P s → P (s.modLp f)) {s : State} (h : P s) : P (arbitrate s) := by
  obtain ⟨f, hf⟩ := arbitrate_only s
  rw [hf]; exact hl f s h

theorem conclude_keeps {P : State → Prop} (hi : ∀ (i : Immediate) s, Immediate.due s i = true → P s → P (i.act s))
    (hl : ∀ f s, P s → P (s.modLp f)) {s : State} (h : P s) : P (conclude s) :=
  arbitrate_keeps hl (settleFor_keeps hi _ _ h)

/-! ## Requests -/

theorem receive_keeps {P : State → Prop} (hl : ∀ f s, P s → P (s.modLp f)) (r : Request) {s : State} (h : P s) : P (receive r s) := by
  unfold receive
  split
  · exact hl _ s h
  · split
    · exact hl _ s h
    · exact hl _ _ (hl _ s h)

/-- A taken request keeps what every answer, every transition at once and every update of the link port keep, whether it is carried out or
refused. -/
theorem take_keeps {P : State → Prop} (hi : ∀ (i : Immediate) s, Immediate.due s i = true → P s → P (i.act s))
    (hl : ∀ f s, P s → P (s.modLp f)) (hb : ∀ r s, P s → P (answerOf r s).state) (r : Request) {s : State} (h : P s) :
    P (take r s) := by
  have hj : ∀ s, P s → P (judgeRequest r s).state := by
    intro s hs
    unfold judgeRequest
    split
    · exact hs
    · split
      · exact hb r s hs
      · exact hs
  have hr : ∀ a : Answer, P a.state → P (reply r a) := by
    intro a ha
    simp only [reply, placeReply]
    split
    · exact conclude_keeps hi hl (hl _ _ ha)
    · exact arbitrate_keeps hl (hl _ _ ha)
  exact hr _ (hj _ (hl _ s h))

theorem serveFor_keeps {P : State → Prop} (ht : ∀ r s, P s → P (take r s)) : ∀ (n : Nat) (s : State), P s → P (serveFor n s)
  | 0, _, h => h
  | n + 1, s, h => by
    unfold serveFor
    split
    · exact h
    · split
      · exact serveFor_keeps ht n _ (ht _ s h)
      · exact h

/-- The end of an event keeps what every answer, every transition at once and every update of the link port keep. -/
theorem finish_keeps {P : State → Prop} (hi : ∀ (i : Immediate) s, Immediate.due s i = true → P s → P (i.act s))
    (hl : ∀ f s, P s → P (s.modLp f)) (hb : ∀ r s, P s → P (answerOf r s).state) {s : State} (h : P s) : P (finish s) :=
  serveFor_keeps (fun r _ hs => take_keeps hi hl hb r hs) _ _ (conclude_keeps hi hl h)

/-- A request of the host keeps the same. -/
theorem hostRequest_keeps {P : State → Prop} (hi : ∀ (i : Immediate) s, Immediate.due s i = true → P s → P (i.act s))
    (hl : ∀ f s, P s → P (s.modLp f)) (hb : ∀ r s, P s → P (answerOf r s).state) (dt : Nat) (kind tag : Byte) (p : List Byte)
    {s : State} (h : P (elapse dt s)) : ∃ t, hostRequest dt kind tag p s = .next t ∧ P t :=
  ⟨_, rfl, serveFor_keeps (fun r _ hs => take_keeps hi hl hb r hs) _ _ (arbitrate_keeps hl (receive_keeps hl _ h))⟩

/-- Every answer is one of the requests' own, or the refusal of an unknown kind: a property of each is a property of all. -/
theorem answerOf_keeps {P : Answer → Prop} (r : Request) (s : State)
    (h : ∀ f ∈ [identReply, statusReply, setTime, getTime, setSeason, getSeason, setHour, getHour, playShow, stopShow, getQueue, setState,
      serviceRequest, resumeRequest, setCodes, strikeTest, selfTest, getSelfTest, getBell, counterSelect, counterSnapshot, readLog, moveAxis,
      homeAxis, clearFault, getAxis, getDoor, storeRead, storeWrite, storeErase, storeResult, rescan, walkReport, noticeMask,
      softResetRequest], P (f r.payload s)) (hu : P (refuse .unknownKind s)) : P (answerOf r s) := by
  unfold answerOf
  split <;> first | exact hu | exact h _ (by simp)

/-! ## Frames of the single updates -/

theorem OnlyMotion.refl (s : State) : OnlyMotion s s := ⟨rfl, rfl, rfl, rfl, rfl, rfl, rfl, rfl, rfl⟩

theorem OnlyMotion.trans {s t v : State} (h : OnlyMotion s t) (g : OnlyMotion t v) : OnlyMotion s v :=
  ⟨g.tb.trans h.tb, g.su.trans h.su, g.lu.trans h.lu, g.pe.trans h.pe, g.st.trans h.st, g.sv.trans h.sv, g.lp.trans h.lp,
    g.pins.trans h.pins, g.pending.trans h.pending⟩

theorem OnlyMotion.modAxis (a : Axis) (f : AxisRecord → AxisRecord) (s : State) : OnlyMotion s (s.modAxis a f) :=
  ⟨rfl, rfl, rfl, rfl, rfl, rfl, rfl, rfl, rfl⟩
theorem OnlyMotion.modDoor (d : Axis) (f : DoorRecord → DoorRecord) (s : State) : OnlyMotion s (s.modDoor d f) :=
  ⟨rfl, rfl, rfl, rfl, rfl, rfl, rfl, rfl, rfl⟩
theorem OnlyMotion.modHold (f : Hold → Hold) (s : State) : OnlyMotion s (s.modPe fun e => { e with hold := f e.hold }) :=
  ⟨rfl, rfl, rfl, rfl, rfl, rfl, rfl, rfl, rfl⟩
theorem OnlyMotion.raise (k : Kind) (s : State) : OnlyMotion s (raise k s) := by
  rcases raise_cases k s with h | h <;> rw [h]
  · exact .refl s
  · exact ⟨rfl, rfl, rfl, rfl, rfl, rfl, rfl, rfl, rfl⟩

theorem OnlyStrikes.refl (s : State) : OnlyStrikes s s := ⟨rfl, rfl, rfl, rfl, rfl, rfl, rfl, rfl, rfl⟩

theorem OnlyStrikes.trans {s t v : State} (h : OnlyStrikes s t) (g : OnlyStrikes t v) : OnlyStrikes s v :=
  ⟨g.tb.trans h.tb, g.su.trans h.su, g.lu.trans h.lu, g.pe.trans h.pe, g.mu.trans h.mu, g.sv.trans h.sv, g.lp.trans h.lp,
    g.pins.trans h.pins, g.pending.trans h.pending⟩

theorem OnlyStrikes.modChan (b : Bell) (f : Channel → Channel) (s : State) : OnlyStrikes s (s.modChan b f) :=
  ⟨rfl, rfl, rfl, rfl, rfl, rfl, rfl, rfl, rfl⟩
theorem OnlyStrikes.modSt (f : StrikeUnit → StrikeUnit) (s : State) : OnlyStrikes s (s.modSt f) :=
  ⟨rfl, rfl, rfl, rfl, rfl, rfl, rfl, rfl, rfl⟩
theorem OnlyStrikes.modPe {f : PerformanceEngine → PerformanceEngine} {s : State}
    (h : (f s.pe).besideReports = s.pe.besideReports) : OnlyStrikes s (s.modPe f) := ⟨rfl, rfl, rfl, h, rfl, rfl, rfl, rfl, rfl⟩
theorem OnlyStrikes.raise (k : Kind) (s : State) : OnlyStrikes s (raise k s) := by
  rcases raise_cases k s with h | h <;> rw [h]
  · exact .refl s
  · exact ⟨rfl, rfl, rfl, rfl, rfl, rfl, rfl, rfl, rfl⟩
theorem OnlyStrikes.setLevel (v : Level) (on : Bool) (s : State) : OnlyStrikes s (setLevel v on s) :=
  ⟨rfl, rfl, rfl, rfl, rfl, rfl, LinkPort.report_besideNotices v on s.lp, rfl, rfl⟩

/-- A report touches only the engine's record (R75, R87, R107). -/
theorem reportOrigin_cases (q : StrikeRequest) (f : Performance → Performance) (r : Option BellResult) (s : State) :
    ∃ g, reportOrigin q f r s = s.modPe g := by
  have hs : ∃ g, s = s.modPe g := ⟨id, rfl⟩
  unfold reportOrigin
  cases q.origin with
  | score =>
    simp only [reportPerf]
    split
    · exact ⟨_, rfl⟩
    · exact hs
  | test => exact hs
  | selfTest =>
    cases r with
    | none => exact hs
    | some r =>
      simp only [reportTest]
      split
      · exact ⟨_, rfl⟩
      · exact hs

/-- The quality counter's count is the Strike Unit's, and may raise COUNTER_FULL (R128). -/
theorem qualityCount_cases (s : State) :
    ∃ g : StrikeUnit → StrikeUnit, qualityCount s = s.modSt g ∨ qualityCount s = raise .counterFull (s.modSt g) := by
  unfold qualityCount
  simp only []
  split
  · exact ⟨_, .inr rfl⟩
  · exact ⟨_, .inl rfl⟩

/-! ## The clock -/

theorem ClockKept.refl (s : State) : ClockKept 0 s s := ⟨rfl, id, rfl⟩

theorem ClockKept.trans {m n : Nat} {s t v : State} (h : ClockKept m s t) (g : ClockKept n t v) : ClockKept (m + n) s v :=
  ⟨by rw [g.1, h.1]; omega, fun x => g.2.1 (h.2.1 x), g.2.2.trans h.2.2⟩

theorem ClockKept.elapse (dt : Nat) (s : State) : ClockKept dt s (elapse dt s) := ⟨rfl, id, rfl⟩

/-- What leaves the Time Base and the waiting commands alone keeps the clock. -/
theorem ClockKept.of_eq {s t : State} (htb : t.tb = s.tb) (hp : t.pending = s.pending) : ClockKept 0 s t :=
  ⟨by rw [htb]; rfl, fun h => by rw [htb]; exact h, hp⟩

end Sys2Proof.Machine
end

