-- ==== Sys2Proof/Tests/Slice0.lean ====
section
/-! SUPPORT. Tests on small states, each one operation or one command. Every expected result is the manual's own worked example, or hand
calculation from its rules; the comment of each test names the source. -/

set_option Elab.async false

namespace Sys2Proof.Machine.Tests

/-! ## A small tower -/

/-- Bell 5 of 5.7, with the codes, times and cooling factor of 6.9 and 6.10. -/
def bell5 : BellProfile :=
  { wmin := 2000, wmax := 12000, wlim := 16000, current := 2500, lead := 12000, trec := 60, limitCode := 1, blankCode := 1,
    retryCode := 1, autoretry := true, hasDamper := true, hasPickup := false, dampTime := 200, verifyWindow := 10, k := 8,
    hwarn := 400000, hmax := 500000 }

/-- The carousels of 7.12: 360 counts, SHORTEST, stall window 500 ms, guard door 6. -/
def carousel : AxisProfile :=
  { kind := .rotary, policy := .shortest, size := 360, poses := [0, 90, 200, 300, 0, 0, 0, 0, 0, 0, 0, 0, 0, 0, 0, 0],
    travelDuty := 200, creepDuty := 60, approach := 10, stallWindow := 500, travelTimeout := 20, limitCode := 1, blankCode := 1,
    retryCode := 1, autoretry := true, guardDoor := some 6, leader := none, follow := .same }

/-- A door with a travel timeout of 10 s (8.8). -/
def panel : AxisProfile :=
  { carousel with kind := .door, guardDoor := none, travelTimeout := 10 }

/-- Bell 5, axes 2 and 3 (a mirrored pair behind door 6) and door 6. -/
def tower : Profile :=
  { bellsPresent := 0x000020, axesPresent := 0x4C, iBudget := 6000, vn := 2400, vwarn := 2000, vuv := 1600, slackMs := 20,
    lateLimitS := 120, codaTimeoutS := 30, bells := Vector.replicate 24 bell5,
    axes := ((Vector.replicate 8 carousel).set 6 panel).set 3 { carousel with leader := some 2, follow := .mirror } }

/-- An axis at rest on its home switch. -/
def homed : AxisRecord := { AxisRecord.reset with state := .idle, referenced := true }

/-- A door standing at a switch. -/
def standing (st : DoorState) : DoorRecord := { DoorRecord.reset with state := st, lastFault := none, release := false }

/-- The tower ready to play: directory VALID, figures home, door 6 CLOSED, no mute reason, presentation RUN, Vm 2160. -/
def ready : State :=
  { State.reset with
    lu := { LibraryUnit.reset (some tower) with dirState := .valid, walk := none, port := none }
    mu := ⟨Vector.replicate 8 homed, Vector.replicate 8 (standing .closed)⟩
    sv := { SupervisionUnit.reset 0 false false with
      mute := ⟨false, false, false, false, false⟩, supply := .normal, vm := some 2160, presentation := .run }
    pins := { Pins.reset with home := 0xFF } }

/-- The next state of an outcome. -/
def after : Host.Outcome State Fault Refusal → State
  | .next s => s
  | .fault _ => State.reset
  | .refused _ => State.reset

/-- A show of the directory: doors 6, axes 2, a preroll of 12 s, the tempos of 1.7. -/
def show63 : DirEntry :=
  { id := 63, address := 4096, length := 48, scoreAddress := 4144, scoreLength := 2, preroll := 12000, startTempo := 7200,
    tempos := [(8800, 1), (7200, 4)], doors := 0x40, axes := 0x04, bells := 0x000020, stale := false }

/-- A performance of it. -/
def playing63 : Performance :=
  { request := ⟨63, .link, 3, .full, 0, 0, false⟩, seq := 9, entry := show63, dueCount := 0, prepLimit := 30000000,
    flags := ⟨false, false, false, false⟩, excluded := 0, counters := ⟨0, 0, 0, 0, 0, 0, 0⟩, startCount := none,
    startWall := none, endWall := none, result := none }

/-- The engine of the ready tower in a state, with that performance current. -/
def engaged (e : EngineState) : State := ready.modPe fun x => { x with engine := e, perf := some playing63 }

/-- The ready tower at a counter value, its wall clock reading the same. -/
def atCount (n : Nat) (s : State) : State := s.modTb fun t => { t with counter := n, reading := n, second := n / 1000000 }

/-- The fields and status of the reply that is being sent. -/
def sent (s : State) : Option (Status × List Field) :=
  match s.lp.tx with
  | .reply r => some (r.status, r.fields)
  | .idle | .notice _ => none

/-! ## WellFormed -/

/-- 11.1: TAG 0 is NOTICE's. -/
theorem test_wf_tag_zero : (Instr.ident 0 0 []).wellFormed = false := by decide
/-- 11.1: LEN is at most 240. -/
theorem test_wf_payload_long : (Instr.storeWrite 0 1 (List.replicate 241 0)).wellFormed = false := by
  simp [Instr.wellFormed, Instr.frame, Instr.frameOk, -List.reduceReplicate]
/-- R1: the counter holds 64 bits. -/
theorem test_wf_time_long : (Instr.decayTick (2 ^ 64)).wellFormed = false := by decide
/-- 3.2: no transfer returns more than 65,535 bytes. -/
theorem test_wf_flash_long : (Instr.prefetchReadEnd 0 (List.replicate 65536 0)).wellFormed = false := by
  simp [Instr.wellFormed, Instr.flashBytes, -List.reduceReplicate]
/-- 11.1: KIND 0x01 names IDENT. -/
theorem test_wf_kind_known : (Instr.unknownKind 0 0x01 1 []).wellFormed = false := by decide
/-- R201: class 1 is AXIS. -/
theorem test_wf_class_axis : (Instr.clearFaultBell 0 1 [1, 0]).wellFormed = false := by decide
/-- R201: class 0 is BELL. -/
theorem test_wf_class_bell : (Instr.clearFaultAxis 0 1 [0, 0]).wellFormed = false := by decide
/-- R178: readings run from −40 to +200. -/
theorem test_wf_die_hot : (Instr.dieReading 0 201).wellFormed = false := by decide
theorem test_wf_good : (Instr.ident 10 7 []).wellFormed = true := by decide


/-! ## Formats and the clock -/

/-- Conventions, check codes: the published check value of this CRC-16 for the bytes "123456789". -/
theorem test_crc_check_value : crc16 [0x31, 0x32, 0x33, 0x34, 0x35, 0x36, 0x37, 0x38, 0x39] = 0x29B1 := by decide +kernel
/-- R2: 2000-01-01 is a Saturday, 5. -/
theorem test_weekday_first : weekdayOf 0 = 5 := by decide
/-- R2: 29 February 2024 is day 8825 of the calendar. -/
theorem test_leap_day : dateTimeOf (8825 * 86400000000) = ⟨2024, 2, 29, 0, 0, 0, 0⟩ := by decide
/-- 1.2: the last microsecond of the span. -/
theorem test_last_instant : dateTimeOf 3155759999999999 = ⟨2099, 12, 31, 23, 59, 59, 999999⟩ := by decide
/-- R201: an absent signed field is the most negative value. -/
theorem test_absent_signed : Field.encode (.s16 none) = [0x80, 0x00] := by decide
/-- R201: −150,000 in four bytes. -/
theorem test_negative_field : Field.encode (.s32 (some (-150000))) = [0xFF, 0xFD, 0xB6, 0x10] := by decide

/-! ## The Time Base (1.6 and 1.7) -/

/-- 1.6, edge E2: interval 1,000,004 in window, field 244: LOCKED with +244 to slew. -/
def edgeTwo : State :=
  (atCount 2000244 ready).modTb fun t => { t with second := 2, discipline := .acquiring, prevEdge := some 1000240 }
theorem test_pps_edge_locks :
    ((after (exec (.ppsEdge 0) edgeTwo)).tb.discipline, (after (exec (.ppsEdge 0) edgeTwo)).tb.slew) = (.locked, 244) := by
  decide +kernel
/-- R8: +150,000 while a performance plays becomes a pending PPS step of −150,000. -/
theorem test_pps_edge_offers_step :
    (after (exec (.ppsEdge 0) ((engaged .playing).modTb fun t =>
      { t with counter := 2150000, reading := 2150000, second := 2, discipline := .locked, prevEdge := some 1150000 }))).tb.pendingStep =
      some ⟨-150000, .pps⟩ := by decide +kernel
/-- 1.6: the next second holds at 0 for 244 µs. -/
def slewing : State :=
  ready.modTb fun t => { t with counter := 3000004, reading := 3000000, second := 2, slew := 244 }
theorem test_second_holds :
    ((after (exec (.wallSecondStart 0) slewing)).tb.holdEnd, (after (exec (.wallSecondStart 0) slewing)).tb.slew) =
      (some 3000248, 0) := by decide +kernel
/-- R7: after the hold the field counts on; 10 µs late, the field reads 10. -/
theorem test_hold_ends :
    microField (after (exec (.slewHoldEnd 254) (after (exec (.wallSecondStart 0) slewing)))) = 10 := by decide +kernel
/-- R6: more than 3,000,000 µs after the edge. -/
theorem test_pps_loss :
    (after (exec (.ppsLossTimeout 3000001) (ready.modTb fun t =>
      { t with discipline := .locked, prevEdge := some 0, slew := 7 }))).tb.discipline = .freeRun := by decide +kernel
/-- R11: SET_TIME of 2024-02-29 00:00:00 sets the reading and the time-set flag. -/
theorem test_set_time :
    (after (exec (.setTime 0 1 [24, 2, 29, 0, 0, 0, 0, 0, 0]) ready)).tb.reading = 8825 * 86400000000 := by decide +kernel
/-- R11: 30 February is refused. -/
theorem test_set_time_refused : sent (after (exec (.setTime 0 1 [24, 2, 30, 0, 0, 0, 0, 0, 0]) ready)) = some (.badArgument, []) := by
  decide +kernel
/-- 1.7: divisions at 7200 end at 8680, 17361, 26041 and 34722. -/
def divisionEnd (y : Synth) : Nat → List Nat
  | 0 => []
  | n + 1 =>
    let z := y.beginDivision
    match z.divEnd with
    | none => []
    | some e => e :: divisionEnd (z.nextBoundary e) n
theorem test_division_ends : divisionEnd (Synth.reset.start 7200 0) 4 = [8680, 17361, 26041, 34722] := by decide
/-- R18: a ramp from 8800 to 7201 over 4 truncates toward zero. -/
theorem test_ramp_tempos :
    [1, 2, 3, 4].map (Ramp.tempoAt ⟨8800, 7201, 4, 0, true⟩) = [8401, 8001, 7601, 7201] := by decide

/-! ## The Schedule Unit (2.7 and 2.8) -/

/-- R23: entry 15 is replaced; R21: the entry covers today and gives its programme. -/
theorem test_set_season :
    (after (exec (.setSeason 0 1 [15, 1, 12, 20, 1, 10, 0x20, 7, 3]) ready)).su.activeProgramme = 3 := by decide +kernel
/-- R21: a range that wraps across the new year holds its last day and not the day after. -/
theorem test_range_wraps :
    let e : SeasonEntry := ⟨true, 11, 15, 1, 6, 0x7F, 0, 0⟩
    [(11, 14), (11, 15), (12, 31), (1, 6), (1, 7)].map e.covers = [false, true, true, true, false] := by decide
/-- R24: an hour of 24 is refused. -/
theorem test_set_hour_refused : sent (after (exec (.setHour 0 1 [0, 24, 1, 1, 0]) ready)) = some (.badArgument, []) := by decide +kernel
/-- R25: hour 13 counts 1, hour 0 counts 12, the third quarter 3. -/
theorem test_trigger_counts : [triggerCount (4 * 13), triggerCount 0, triggerCount 7] = [1, 12, 3] := by decide
/-- 2.8: an HOUR request at a full queue takes the place of the older QUARTER request. -/
def queued (o : Origin) (id : Nat) : ShowRequest := ⟨id, o, 1, .full, 0, 0, false⟩
def fullQueue : State := (engaged .playing).modSu fun u =>
  { u with queue := [queued .link 21, queued .quarter 3, queued .link 22, queued .quarter 4] }
theorem test_hour_evicts :
    (postRequest (queued .hour 7) fullQueue).su.queue =
      [queued .link 21, queued .link 22, queued .quarter 4, queued .hour 7] := by decide +kernel
/-- R36: a full queue refuses PLAY_SHOW. -/
theorem test_play_show_full :
    sent (after (exec (.playShow 0 1 [63, 1, 0, 0, 0, 0, 0, 0, 0, 0, 0, 0, 0])
      (fullQueue.modLu fun u => { u with directory := [show63] }))) = some (.queueFull, []) := by decide +kernel
/-- R33, R62: an idle engine takes a PLAY_SHOW at once and demands its door. -/
theorem test_play_show_taken :
    let s := after (exec (.playShow 0 1 [63, 0, 0, 0, 0, 0, 0, 0, 0, 0, 0, 0, 0]) (ready.modLu fun u => { u with directory := [show63] }))
    (s.pe.engine, s.pe.demanded, (s.door 6).state) = (.preparing, 0x40, .opening) := by decide +kernel
/-- R29: of the triggers a forward step passes, the latest hour trigger is the candidate. -/
theorem test_catch_up_candidate : catchUpCandidate 39 44 = some 44 := by decide
/-- R27, R51: a trigger at 01:00 whose preroll of 12 s began during the walk is SUPPRESSED at its end, before RUN. -/
def inPreroll (s : State) : State :=
  ((s.modTb fun t => { t with timeSet := true, reading := 3595000000, second := 3595 }).modLu fun u => { u with directory := [show63] }).modSu
    fun u => { u with record := .clearSince 3580000000 }
def walkEnding : State :=
  ((inPreroll ready).modLu fun u => { u with dirState := .scanning, walk := some { Walk.start with install := some (some tower) } }).modSu
    fun u => putHour 0 1 ⟨some 63, none, .full⟩ u
theorem test_walk_end_suppresses :
    let s := endWalk .chainEnd (setPresentation .locked walkEnding)
    (s.su.counters.suppressed, s.su.queue, s.su.record, s.sv.presentation) = (1, [], .named 4, .run) := by decide +kernel
/-- R24, R27: SET_HOUR finds the posting instant of its trigger already reached, and its show begins. -/
theorem test_set_hour_reached :
    let s := after (exec (.setHour 0 1 [0, 1, 63, 0xFF, 0]) (inPreroll ready))
    (s.su.counters.posted, s.su.record, s.pe.engine) = (1, .named 4, .preparing) := by decide +kernel
/-- R59, R27: the record is clear since an instant inside the preroll of 01:00; a drop to NONE takes the preroll away, and 01:00, reached by
now, is SUPPRESSED; a RESCAN finds it with no show. -/
def clearInPreroll : State :=
  ((inPreroll ready).modTb fun t => { t with reading := 3601000000, second := 3601 }).modSu fun u =>
    { putHour 0 1 ⟨some 63, none, .full⟩ u with record := .clearSince 3590000000 }
theorem test_drop_recomputes :
    let s := clearInPreroll.modLu fun u => { u with report := { u.report with install := some (8192, 64) } }
    let t := endStoreOp ⟨.write, 8192, 1, [0], .after 0 false⟩ .ok [] s
    (nextTrigger s, t.su.record, t.su.counters.suppressed, (beginRescan s).su.record, (beginRescan s).su.counters.suppressed) =
      (some 5, .named 4, 1, .named 4, 0) := by decide +kernel
/-- R42, R58: at the last status read of a write the recomputed trigger's show, with a score of no bytes, is taken; the ended operation asks
for no further transfer. -/
theorem test_ended_write_asks_no_more :
    let u := ({ putHour 0 1 ⟨some 63, none, .full⟩ (inPreroll ready).su with record := .clearSince 3580000000 } : ScheduleUnit)
    let s := { inPreroll ready with su := u }.modLu fun v =>
      { v with
        directory := [{ show63 with scoreLength := 0 }], port := some ⟨.store, .readStatus, false⟩
        storeOp := some ⟨.write, 8192, 1, [0], .after 0 true⟩ }
    let t := storeTransferEnd [0] s
    (t.pe.engine, t.lu.storeOp, t.lu.port) = (.preparing, none, none) := by decide +kernel
/-- R110: a walk that ends NONE drops the strike queue as CHANNEL_FAULT, the entries not yet due among them. -/
theorem test_none_drops_strikes :
    let s := endWalk .headerBad (setStrikes [⟨5, 96, 9000000000, .test, none⟩] walkEnding)
    (s.st.queue, s.st.counters.channelFault, s.st.counters.muted) = ([], 1, 0) := by decide +kernel
/-- A trial of bell 5 in flight, and bell 6 damped. -/
def flying : State :=
  ((ready.modChan 5 fun c =>
      { c with
        state := .pulse, admitted := 2500, trial := true, faultCount := 1
        lastStrike := some ⟨.test, 96, 0, .fired none, 0, none, none⟩ }).modChan 6 fun c =>
    { c with dampEnd := some 9000 }).modSt fun u => { u with sum := 2500 }
def fateOf5 (s : State) : ChannelState × Nat × Nat × Bool × Option StrikeOutcome :=
  ((s.chan 5).state, s.st.sum, (s.chan 5).faultCount, (s.chan 5).trial, (s.chan 5).lastStrike.map (·.outcome))
/-- R101, R117, R174: a first halt reason cuts the pulse as HALT, and the halted trial keeps its count and its flag. -/
theorem test_halt_cuts_pulse :
    let s := addReason .thermal flying
    (fateOf5 s, (s.chan 6).dampEnd) = ((.recovery, 0, 1, true, some (.fired (some .halt))), none) := by decide +kernel
/-- R110, R117, R177: whichever way the free value of log entry 52 falls, SUPPLY stands and the damper is OFF; by R117 the pulse ends as HALT,
by R110 it is left with its current, to end cleanly by R100. -/
theorem test_walk_halt_by_R117 :
    let s := addReasonWith true .supply flying
    (fateOf5 s, (s.chan 6).dampEnd, s.sv.mute.supply) = ((.recovery, 0, 1, true, some (.fired (some .halt))), none, true) := by decide +kernel
theorem test_walk_halt_by_R110 :
    let s := addReasonWith false .supply flying
    (fateOf5 s, (s.chan 6).dampEnd, s.sv.mute.supply) = ((.pulse, 2500, 1, true, some (.fired none)), none, true) := by decide +kernel
theorem test_left_pulse_ends_cleanly :
    fateOf5 (endPulseClean 5 (addReasonWith false .supply flying)) = (.recovery, 0, 0, false, some (.fired (some .clean))) := by
  decide +kernel
/-- R51, R177: with no pulse in flight nothing of a walk that ends NONE is free. -/
theorem test_walk_ends_none_halts :
    let s := endWalk .headerBad (walkEnding.modChan 6 fun c => { c with dampEnd := some 9000 })
    (s.sv.supply, s.sv.mute.supply, (s.chan 6).dampEnd, s.partLocked) = (.lockout, true, none, true) := by decide +kernel
/-- R166, log entry 80: a follower that is LOCKED_OUT counts both targets that a park gives it. -/
theorem test_park_counts_both_drops :
    let s := park (ready.modAxis 3 fun r => { r with state := .lockedOut })
    ((s.axis 3).dropped, (s.axis 3).state) = (2, .lockedOut) := by decide +kernel
/-- R30: a backward step of more than an hour before the named trigger clears the record. -/
theorem test_step_back :
    (stepBack 1000 (ready.modSu fun u => { u with record := .named 5 })).su.record = .clearSince 1000 := by decide +kernel

/-! ## The Library Unit -/

/-- R202: a policy that 11.4 does not name fails row 9 on a LINEAR axis too. -/
theorem test_linear_policy :
    let p := { tower with axes := tower.axes.set 0 { carousel with kind := .linear } }
    [0, 1, 2].map (fun q : Byte => axisCheck 9 (List.replicate 632 0 ++ [1, q]) p 0) = [true, true, false] := by decide +kernel

/-- R44: a header of another magic number ends the walk HEADER_BAD, and the part stays LOCKED. -/
theorem test_bad_header :
    let s := after (exec (.walkTransferEnd 0 (List.replicate 16 0)) (State.reset.modLu fun u =>
      { u with walk := some ⟨.header, none, none, none⟩, port := some ⟨.walk, .read 0 16, false⟩ }))
    (s.lu.dirState, s.lu.report.endReason, s.partLocked) = (.absent, some .headerBad, true) := by decide +kernel
/-- R43: a flash that is not busy lets the walk read its header. -/
theorem test_walk_poll : (after (exec (.walkTransferEnd 0 [0]) State.reset)).lu.port = some ⟨.walk, .read 0 16, false⟩ := by decide +kernel
/-- R41: the bytes sent in the five transfers. -/
theorem test_transfer_bytes :
    [Transfer.read 0x123456 9, .writeEnable, .pageProgram 0x100 [7, 8], .sectorErase 0x1000, .readStatus].map Transfer.sent =
      [[0x03, 0x12, 0x34, 0x56], [0x06], [0x02, 0, 1, 0, 7, 8], [0x20, 0, 0x10, 0], [0x05]] := by decide
/-- R201: end reasons in the order of R51, chain reasons in that of R46. -/
theorem test_walk_reasons :
    ([WalkReason.headerBad, .installMissing, .installInvalid, .chainEnd, .limit].map (·.num), [WalkReason.chainEnd, .limit].map (·.chainNum)) =
      ([0, 1, 2, 3, 6], [some 0, some 3]) := by decide
/-- R55: a read past the store's end is refused. -/
theorem test_store_read_refused : sent (after (exec (.storeRead 0 1 [0, 0xFF, 0xFF, 0xFF, 2]) ready)) = some (.badArgument, []) := by
  decide +kernel
/-- R54: a second store request is BUSY. -/
theorem test_store_busy :
    sent (after (exec (.storeErase 0 2 [0, 0, 0x10, 0])
      { after (exec (.storeRead 0 1 [0, 0, 0, 0, 1]) ready) with lp := ready.lp })) = some (.busy, []) := by decide +kernel

/-! ## The Strike Unit (5.7, 6.9 and 6.10) -/

/-- 5.7: W0 9539, W1 11776, W2 and W3 8243. -/
theorem test_pulse_computation : computeStages bell5 2400 2160 96 430000 = ⟨2160, 2160, 9539, 11776, 8243, 8243, 430000⟩ := by decide +kernel
/-- 5.7: at 495,000 the pulse is a thermal drop. -/
theorem test_thermal_drop :
    ((computeStages bell5 2400 2160 96 495000).w3, thermalDrop bell5 (computeStages bell5 2400 2160 96 495000)) = (588, true) := by decide
/-- 5.7: a narrow derating band leaves the heat room. -/
theorem test_heat_room : (computeStages { bell5 with hwarn := 495000 } 2400 2160 96 497000).w3 = 3000 := by decide
/-- 6.10: the first three ticks and the ticks near zero. -/
theorem test_decay : [decayHeat 8 438243, decayHeat 8 424548, decayHeat 8 20, decayHeat 8 0] = [424548, 411281, 19, 0] := by decide
/-- R85, R99: a STRIKE_TEST fires at once and adds the bell's current. -/
def struck : State := after (exec (.strikeTest 0 1 [5, 96]) ready)
theorem test_strike_test : ((struck.chan 5).state, (struck.chan 5).pulseEnd, struck.st.sum) = (.pulse, 11776, 2500) := by decide +kernel
/-- R113: HLIM from 2400 with a blanking time of 100 µs trips at 2501. -/
theorem test_over_current :
    ((after (exec (.overCurrent 101 5) (after (exec (.hlimChange 2400 5 true) struck)))).chan 5).state = .faultOff := by decide +kernel
/-- R114: no presence by 2000 µs is an open coil, and the channel is LOCKED_OUT. -/
theorem test_open_coil : ((after (exec (.presenceDeadline 2000 5) struck)).chan 5).state = .lockedOut := by decide +kernel
/-- R100: a clean end goes to RECOVERY for Trec, 60 ms. -/
theorem test_pulse_end :
    ((after (exec (.pulseEnd 11776 5) (after (exec (.hprsActive 0 5 true) struck)))).chan 5).recoveryEnd = some 71776 := by decide +kernel
/-- R118: CLEAR_FAULT of a LOCKED_OUT bell: LOCKED_OUT before, READY after. -/
theorem test_clear_bell :
    sent { after (exec (.clearFaultBell 0 1 [0, 5]) { after (exec (.presenceDeadline 2000 5) struck) with lp := ready.lp }) with
      pins := ready.pins } = some (.ok, [n8 5, n8 0]) := by decide +kernel
/-- R92: a muted part drops the request as MUTED. -/
theorem test_muted_strike :
    (after (exec (.strikeTest 0 1 [5, 96]) (ready.modSv fun u => { u with mute := { u.mute with hush := true } }))).st.counters.muted = 1 := by
  decide +kernel

/-! ## The Motion Unit (7.12 and 8.8) -/

/-- R144, R146, R164: a leader's move waits for the guard door, its mirrored follower is given 360 − 90, and the door opens. -/
def moved : State := after (exec (.moveAxis 0 1 [2, 1]) ready)
theorem test_move_axis :
    ((moved.axis 2).state, (moved.axis 3).target, (moved.door 6).state) = (.waitDoor, some ⟨270, .leader, none⟩, .opening) := by
  decide +kernel
/-- R160, R164: the door opens, and the axis that waits drives forward. -/
def driving : State := after (exec (.doorSwitchChange 100 6 .open true) moved)
theorem test_door_opens : ((driving.door 6).state, (driving.axis 2).drive.map (·.dir)) = (.open, some .forward) := by decide +kernel
/-- R136: a count moves the axis by one; the mirrored follower counts back round its revolution. -/
theorem test_axis_counts :
    ((after (exec (.axisCount 10 2) driving)).axis 2).position = 1 ∧ ((after (exec (.axisCount 10 3) driving)).axis 3).position = 359 := by
  decide +kernel
/-- R135, R157: travel duty on the driven gate of an axis and of a door, none on the other. -/
theorem test_gate_duty : [gateDuty driving 2 .forward, gateDuty driving 2 .reverse, gateDuty moved 6 .forward] = [200, 0, 200] := by
  decide +kernel
/-- R138: a MOVING axis that is given its own position drives on, round the revolution. -/
theorem test_moving_same_target :
    let s := driving.modAxis 2 fun r => { r with position := 200 }
    (((after (exec (.moveAxis 5 1 [2, 2]) { s with lp := ready.lp })).axis 2).state,
      ((after (exec (.moveAxis 5 1 [2, 2]) { s with lp := ready.lp })).axis 2).target.map (·.pos)) = (.moving, some 200) := by decide +kernel
/-- R139: HOME_AXIS while WAIT_DOOR for homing finds the home switch active. -/
theorem test_home_while_waiting :
    ((after (exec (.homeAxis 0 1 [2]) (ready.modAxis 2 fun r =>
      { r with referenced := false, state := .waitDoor, waitHoming := true, homeRequest := true }))).axis 2).referenced = true := by
  decide +kernel
/-- R148: no count for 500 ms is a STALL. -/
theorem test_axis_stall : ((after (exec (.axisStall 500000 2) driving)).axis 2).lastFault.map (·.kind) = some .stall := by decide +kernel
/-- R165: a door's fault stops the figures it guards. -/
theorem test_door_fault_stops : ((after (exec (.doorTimeout 10000000 6) moved)).axis 2).state = .idle := by decide +kernel
/-- R145, R139: HOME_AXIS on an axis at its home switch references it at once. -/
theorem test_home_axis :
    ((after (exec (.homeAxis 0 1 [2]) (ready.modAxis 2 fun r => { r with referenced := false, state := .unreferenced }))).axis 2).state =
      .idle := by decide +kernel
/-- R152, R163: a halt reason stops the drives and the travelling doors. -/
theorem test_halt :
    let s := addReason .thermal moved
    ((s.axis 2).state, (s.door 6).state, (s.door 6).release) = (.idle, .fault, true) := by decide +kernel

/-! ## The Supervision Unit -/

/-- R177: the eighth sample gives Vm, and a supply below Vuv brings LOCKOUT with SUPPLY. -/
theorem test_supply_lockout :
    let s := after (exec (.supplySample 0 799000) (ready.modSv fun u => { u with samples := List.replicate 8 1598 }))
    (s.sv.supply, s.sv.mute.supply, s.sv.vm) = (.lockout, true, some 1598) := by decide +kernel
/-- R178: 160 °C shuts the part down, and 144 leaves it. -/
theorem test_die : [dieRow 160 .normal, dieRow 144 .shutdown, dieRow 145 .shutdown, dieRow 115 .warn] =
    [some .shutdown, some .warn, none, none] := by decide
/-- R181: two passing blocks make a code present in MANUAL mode. -/
theorem test_code_present :
    (((Detector.restarted 1 5).endBlock 2), (({ Detector.restarted 1 5 with passing := 1, hit := true } : Detector).endBlock 2).present) =
      (Detector.restarted 1 5, true) := by decide
/-- R167: SERVICE enters SERVICE_PENDING, and a tower at rest is ready at once (R168). -/
theorem test_service : (after (exec (.service 0 1 []) ready)).sv.presentation = .serviceReady := by decide +kernel
/-- R169: opening the hatch in SERVICE_READY enters SERVICE with its mute reason. -/
theorem test_hatch :
    let s := after (exec (.hatchOpening 5) (after (exec (.service 0 1 []) ready)))
    (s.sv.presentation, s.sv.mute.service, powerEnable s) = (.service, true, false) := by decide +kernel
/-- R185: SET_STATE QUIET adds OPERATOR; the reply gives QUIET and the set. -/
theorem test_set_state : sent (after (exec (.setState 0 1 [1]) ready)) = some (.ok, [n8 2, n8 1]) := by decide +kernel
/-- R185, R34: SET_STATE RUN in RUN examines the head, and a held LINK head whose show has become STALE is discarded. -/
theorem test_set_state_examines :
    let s := after (exec (.setState 0 1 [0]) ((ready.modLu fun u => { u with directory := [{ show63 with stale := true }] }).modSu fun u =>
      { u with queue := [⟨63, .link, 1, .full, 5000000, 0, true⟩] }))
    (s.su.queue, s.su.counters.missing) = ([], 1) := by decide +kernel
/-- R170, R139: an axis that leaves service is to home and keeps a held target; one in LOCKED_OUT stays there. -/
theorem test_leave_service :
    ((AxisRecord.leaveService { homed with target := some homeTarget, held := true }).target,
      (AxisRecord.leaveService { homed with target := some homeTarget }).target,
      (AxisRecord.leaveService homed).homeRequest, (AxisRecord.leaveService { homed with state := .lockedOut }).state) =
      (some homeTarget, none, true, .lockedOut) := by decide
/-- R183: the two codes may not be rotations of each other. -/
theorem test_codes_rotated : codesOk 0x01 5 0x10 5 = false := by decide

/-! ## The Link Port -/

/-- R198. -/
theorem test_ident : sent (after (exec (.ident 0 9 []) ready)) = some (.ok, [n16 0x52A7, n16 0x0C24, n8 1, n16 1]) := by decide +kernel
/-- R191: a KIND of no request. -/
theorem test_unknown_kind : sent (after (exec (.unknownKind 0 0x24 9 [1, 2]) ready)) = some (.unknownKind, []) := by decide +kernel
/-- R191: LEN judged before the arguments. -/
theorem test_bad_length : sent (after (exec (.getBell 0 9 []) ready)) = some (.badLength, []) := by decide +kernel
/-- R189, R190: a frame whose CRC does not match is a link error, and its notice is sent. -/
theorem test_bad_frame :
    let s := after (exec (.badFrame 0 false) (ready.modLp fun l => { l with rx := .inFrame [0xA5, 0, 1, 1, 0, 0] 0 }))
    (s.lp.errors, s.lp.rx, s.lp.transit) = (1, .hunting, 0x800000) := by decide +kernel
/-- R189, R191: a complete frame is taken at once. -/
theorem test_frame_received :
    sent (after (exec (.frameReceived 0) (ready.modLp fun l => { l with rx := .inFrame (frameBytes 0x01 9 []) 0 }))) =
      some (.ok, [n16 0x52A7, n16 0x0C24, n8 1, n16 1]) := by decide +kernel
/-- R191: a request that waits behind two replies is taken at the end of the frame that makes one of them leave the queue. -/
theorem test_head_taken :
    let r : Reply := ⟨0x81, 1, .ok, []⟩
    let s := after (exec (.transmitEnd 0) (ready.modLp fun l => { l with tx := .reply r, replies := [r, r], requests := [⟨0x01, 9, []⟩] }))
    (s.lp.requests, s.lp.replies.map (·.tag)) = ([], [1, 9]) := by decide +kernel
/-- R191: two equal requests behind two replies both wait. -/
theorem test_equal_requests_wait :
    let r : Reply := ⟨0x81, 1, .ok, []⟩
    let s := after (exec (.ident 0 9 []) (ready.modLp fun l => { l with tx := .reply r, replies := [r, r], requests := [⟨0x01, 9, []⟩] }))
    s.lp.requests.length = 2 := by decide +kernel
/-- R188: BAUD1 high and BAUD0 low. -/
theorem test_bit_rate : (powerOn true false ready).lp.bitRate = 230400 := by decide +kernel
/-- R200: the reset happens at the end of the SOFT_RESET reply; the walk begins. -/
theorem test_soft_reset :
    let s := after (exec (.transmitEnd 100) (after (exec (.softReset 0 5 []) ready)))
    (s.lu.dirState, s.sv.presentation, s.tb.counter, s.lu.profile.isSome) = (.scanning, .locked, 100, true) := by decide +kernel

/-! ## Witnesses: for each statement with hypotheses, states and operands that meet them -/

theorem link_ready : LinkReady ready := ⟨rfl, by decide⟩

theorem witness_IdentityAndTimeAreReported : LinkReady ready ∧ elapse 0 ready = elapse 0 ready := ⟨link_ready, rfl⟩

/-- R86, R131, R23: the last numbers of each range, and the three states of STORE_RESULT. -/
theorem witness_ReadsReplyOkAndChangeNothing :
    LinkReady ready ∧ (0x0F : Byte).toNat = (15 : Fin 16).val ∧ (7 : Byte).toNat = (7 : Fin 8).val ∧ (23 : Byte).toNat = (23 : Fin 24).val ∧
      (15 : Byte).toNat ≤ 15 ∧ 1 ≤ (4 : Byte).toNat ∧ (4 : Byte).toNat ≤ 4 ∧ (elapse 0 ready).lu.storeOp = none ∧
      (elapse 0 ready).lu.storeResult = none ∧
      (∃ o, (elapse 0 (ready.modLu fun u => { u with storeOp := some ⟨.erase, 0, 4096, [], .poll none⟩ })).lu.storeOp = some o) ∧
      ∃ r, (elapse 0 (ready.modLu fun u => { u with storeResult := some ⟨.read, 0, 1, .ok, [7]⟩ })).lu.storeResult = some r :=
  ⟨link_ready, by decide, by decide, by decide, by decide, by decide, by decide, rfl, rfl, ⟨_, rfl⟩, ⟨_, rfl⟩⟩

theorem witness_BadRequestsAreAnswered :
    LinkReady ready ∧ ((0 : Byte).toNat = 0 ∧ (0 : Byte).toNat < 0x80) ∧
      (0x24 ≤ (0x24 : Byte).toNat ∧ 0x24 ≤ (0x7F : Byte).toNat ∧ (0x7F : Byte).toNat < 0x80) ∧
      requiredLength 0x01 [0] = some 0 ∧ [(0 : Byte)].length ≠ 0 := ⟨link_ready, by decide⟩

/-- A request that may be taken with another behind it, and one that may not. -/
theorem witness_HeadsAreTakenInTurn :
    (let s := ready.modLp fun l => { l with requests := [⟨0x01, 1, []⟩, ⟨0x01, 2, []⟩], replies := [⟨0x81, 1, .ok, []⟩] }
     s.lp.requests = ⟨0x01, 1, []⟩ :: [⟨0x01, 2, []⟩] ∧ s.lp.replies.length < 2) ∧
      (let r : Reply := ⟨0x81, 1, .ok, []⟩
       2 ≤ (ready.modLp fun l => { l with requests := [⟨0x01, 1, []⟩], replies := [r, r] }).lp.replies.length) := by decide +kernel

/-- R11: the first and the last instant of the calendar; R23, R24, R196: the last entries and the fullest sets. -/
theorem witness_SettingsRequestsReplace :
    LinkReady ready ∧
      ([(0 : Byte), 1, 1, 0, 0, 0, 0, 0, 0].length = 9 ∧ validDateTime (dateTimeAt [0, 1, 1, 0, 0, 0, 0, 0, 0] 0) = true ∧
        validDateTime (dateTimeAt [99, 12, 31, 23, 59, 59, 0x0F, 0x42, 0x3F] 0) = true) ∧
      ([(15 : Byte), 1, 12, 31, 2, 29, 0x7F, 7, 7].length = 9 ∧ byteAt [15, 1, 12, 31, 2, 29, 0x7F, 7, 7] 0 = (15 : Fin 16).val ∧
        (seasonAt [15, 1, 12, 31, 2, 29, 0x7F, 7, 7] 1).ok = true) ∧
      ([(7 : Byte), 23, 63, 0xFF, 3].length = 5 ∧ byteAt [7, 23, 63, 0xFF, 3] 0 = (7 : Fin 8).val ∧
        byteAt [7, 23, 63, 0xFF, 3] 1 = (23 : Fin 24).val ∧
        hourEntryAt [7, 23, 63, 0xFF, 3] 2 = some ⟨some 63, none, .silent⟩) ∧
      ([(0xFF : Byte), 0xFF, 0xFF, 0xFF].length = 4 ∧ (0xFFFFFF : KindSet).toNat = numAt [0xFF, 0xFF, 0xFF, 0xFF] 0 3 ∧
        (0xFF : LevelSet).toNat = byteAt [0xFF, 0xFF, 0xFF, 0xFF] 3) := ⟨link_ready, by decide +kernel⟩

/-- The ready tower with three requests queued and show 63 in the directory. -/
def threeQueued : State :=
  (engaged .playing).modLu (fun u => { u with directory := [show63] }) |>.modSu fun u =>
    { u with queue := [queued .link 63, queued .quarter 63, queued .hour 63] }

/-- Start NOW, and a given start at the last instant R36 allows: midnight of 2000-01-02, a day ahead of the reading. -/
theorem witness_ShowRequestsAct :
    let p : List Byte := [63, 255, 3, 0, 0, 0, 0, 0, 0, 0, 0, 0, 0]
    let g : List Byte := [63, 255, 3, 1, 0, 1, 2, 0, 0, 0, 0, 0, 0]
    LinkReady threeQueued ∧ p.length = 13 ∧ byteAt p 0 ≤ 63 ∧ Mode.ofNum (byteAt p 2) = some .silent ∧ byteAt p 3 = 0 ∧
      (elapse 0 threeQueued).partLocked = false ∧ (elapse 0 threeQueued).presenting = true ∧
      (elapse 0 threeQueued).entryOf (byteAt p 0) = some show63 ∧ show63.stale = false ∧
      (elapse 0 threeQueued).su.queue.length < 4 ∧
      (g.length = 13 ∧ byteAt g 3 = 1 ∧ validDateTime (dateTimeAt g 4) = true ∧ readingOf (dateTimeAt g 4) = 86400000000 ∧
        (elapse 0 threeQueued).tb.reading = 0) := ⟨⟨rfl, by decide⟩, by decide +kernel⟩

/-- The ready tower in a presentation state. -/
def presented (p : Presentation) : State := ready.modSv fun u => { u with presentation := p }

theorem witness_PresentationRequestsMoveTheState :
    LinkReady (presented .run) ∧ LinkReady (presented .service) ∧ (elapse 0 (presented .run)).sv.presentation = .run ∧
      (elapse 0 (presented .quiet)).sv.presentation = .quiet ∧ (elapse 0 (presented .still)).sv.presentation = .still ∧
      (elapse 0 (presented .servicePending)).sv.presentation = .servicePending ∧
      (elapse 0 (presented .serviceReady)).sv.presentation = .serviceReady ∧
      (elapse 0 (presented .service)).sv.presentation = .service ∧ (elapse 0 (presented .service)).sv.hatchOpen = false :=
  ⟨⟨rfl, by decide⟩, ⟨rfl, by decide⟩, rfl, rfl, rfl, rfl, rfl, rfl, rfl⟩

theorem witness_StrikeUnitRequests :
    LinkReady ready ∧ (elapse 0 ready).partLocked = false ∧ (elapse 0 ready).pe.engine = .idle ∧
      ((5 : Byte).toNat = (5 : Bell).val ∧ 1 ≤ (127 : Byte).toNat ∧ (127 : Byte).toNat ≤ 127 ∧
        (elapse 0 ready).bellPresent 5 = true) ∧
      ((elapse 0 ready).sv.presentation = .run ∧ (elapse 0 ready).muted = false) ∧
      ((3 : Byte).toNat = QualitySource.allDrops.num ∧ (1 : Byte).toNat = QualityMode.auto.num) ∧
      (3 < (4 : Byte).toNat ∧ 1 < (2 : Byte).toNat) ∧ (elapse 0 ready).st.quality.mode = .manual ∧
      (elapse 0 (ready.modSt fun u => { u with quality := { u.quality with mode := .auto } })).st.quality.mode = .auto :=
  ⟨link_ready, by decide +kernel⟩

theorem witness_MoveAndHomeRequests :
    let u := elapse 0 ready
    LinkReady ready ∧ u.partLocked = false ∧ u.pe.engine = .idle ∧ u.presenting = true ∧ u.halted = false ∧
      ((2 : Byte).toNat = (2 : Axis).val ∧ u.isFigure 2 = true ∧ (15 : Byte).toNat ≤ 15 ∧ u.leader 2 = none ∧
        (u.axis 2).state.refusesMove = false) ∧
      ((6 : Byte).toNat = (6 : Axis).val ∧ u.isDoor 6 = true ∧ (1 : Byte).toNat ≤ 1) ∧
      (u.sv.presentation.inService = false ∧ u.isFigure 3 = true ∧ (u.axis 3).state = .idle) := ⟨link_ready, by decide +kernel⟩

theorem witness_ClearFaultActsByClass :
    LinkReady ready ∧ ((5 : Byte).toNat = (5 : Bell).val ∧ (elapse 0 ready).bellPresent 5 = true) ∧
      ((3 : Byte).toNat = (3 : Axis).val ∧ (elapse 0 ready).isFigure 3 = true) ∧
      ((6 : Byte).toNat = (6 : Axis).val ∧ (elapse 0 ready).isDoor 6 = true) := ⟨link_ready, by decide +kernel⟩

/-- R55 to R57: the last bytes, the last page place and the last sector of the store. -/
theorem witness_StoreRequestsAreAccepted :
    let u := elapse 0 ready
    LinkReady ready ∧ u.lu.storeOp = none ∧ u.lu.walk = none ∧ u.pe.engine = .idle ∧ u.lu.prefetch = [] ∧
      (u.partLocked = false ∧ u.sv.presentation = .run) ∧ (elapse 0 (presented .service)).sv.presentation.inService = true ∧
      (let w := elapse 0 (ready.modLu fun l => { l with dirState := .absent })
       w.partLocked = true ∧ w.lu.walk = none) ∧
      (let p : List Byte := [0, 0xFF, 0xFF, 0x80, 128]
       p.length = 5 ∧ 1 ≤ byteAt p 4 ∧ byteAt p 4 ≤ 128 ∧ numAt p 0 4 + byteAt p 4 ≤ 16777216) ∧
      (let p : List Byte := [0, 0xFF, 0xFF, 0xFF, 1, 7]
       p.length = 5 + byteAt p 4 ∧ 1 ≤ byteAt p 4 ∧ byteAt p 4 ≤ 128 ∧ numAt p 0 4 % 256 + byteAt p 4 ≤ 256 ∧
         numAt p 0 4 < 16777216) ∧
      (let p : List Byte := [0, 0xFF, 0xF0, 0]
       p.length = 4 ∧ numAt p 0 4 % 4096 = 0 ∧ numAt p 0 4 < 16777216) := ⟨link_ready, by decide +kernel⟩

/-- The ready tower with a receive buffer and a transmitter. -/
def port (rx : RxBuffer) (tx : Transmitter) : State := ready.modLp fun l => { l with rx := rx, tx := tx }

/-- A good frame, and four bad ones: LEN above 240, TAG 0, a KIND of a reply, and a CRC that does not match. -/
theorem witness_LinkFrameCommands :
    (elapse 0 ready).lp.rx = .hunting ∧ (0xA4 : Byte) ≠ 0xA5 ∧
      (elapse 0 (port (.inFrame (frameBytes 0x01 1 []) 0) .idle)).lp.rx = .inFrame (frameBytes 0x01 1 []) 0 ∧
      rxComplete (frameBytes 0x01 1 []) = true ∧ rxBad (frameBytes 0x01 1 []) = false ∧
      (rxBad [0xA5, 241] = true ∧ rxBad (frameBytes 0x01 0 []) = true ∧ rxBad (frameBytes 0x80 1 []) = true ∧
        rxBad [0xA5, 0, 1, 1, 0, 0] = true) ∧
      0 + 20001 ≤ (elapse 20001 (port (.inFrame [0xA5] 0) .idle)).now ∧ LinkReady ready ∧
      (elapse 0 (port .hunting (.reply ⟨0xA3, 1, .ok, []⟩))).lp.tx = .reply ⟨0xA3, 1, .ok, []⟩ ∧
      (∀ r, (elapse 0 (port .hunting (.notice []))).lp.tx = .reply r → r.kind ≠ 0xA3) :=
  ⟨rfl, by decide +kernel, rfl, by decide +kernel, by decide +kernel, by decide +kernel, by decide +kernel, link_ready, rfl, nofun⟩

theorem witness_NoticesLatchUnlessMasked : 23 < 24 := by decide

theorem witness_FrameRoundTrip :
    (0x7F : Byte).toNat < 0x80 ∧ (0xFF : Byte) ≠ 0 ∧ (List.replicate 240 (0xA5 : Byte)).length ≤ 240 := by
  decide +kernel

theorem witness_NothingDueLeavesTheArbiter : (∀ i : Immediate, Immediate.due ready i = false) ∧ ready.lp.requests = [] :=
  ⟨by intro i; cases i <;> decide +kernel, rfl⟩

/-- A second inside a day, the last of a day and the last of the span. -/
theorem witness_WallClockCommands :
    let at_ (n : Nat) (slew : Int) : State :=
      ready.modTb fun t => { t with counter := n * 1000000, reading := n * 1000000, second := n - 1, slew := slew }
    (∀ n x, (elapse 0 (at_ n x)).tb.holdEnd = none) ∧
      (∀ n ∈ [3, 86400, 3155760000], ((elapse 0 (at_ n 0)).tb.second + 1) * 1000000 = (elapse 0 (at_ n 0)).tb.reading ∧
        (elapse 0 (at_ n 0)).tb.reading ≤ 3155760000000000) ∧
      3000000 % 86400000000 ≠ 0 ∧ 86400000000 % 86400000000 = 0 ∧ 3155760000000000 % 86400000000 = 0 ∧ (elapse 0 (at_ 3 0)).tb.slew = 0 ∧
      (0 < (elapse 0 (at_ 3 100000)).tb.slew ∧ ((1000 : Nat) : Int) = min (elapse 0 (at_ 3 100000)).tb.slew 1000) ∧
      ((elapse 0 (at_ 3 (-1))).tb.slew < 0 ∧ ((1 : Nat) : Int) = min (-(elapse 0 (at_ 3 (-1))).tb.slew) 1000) ∧
      ((elapse 7 (ready.modTb fun t => { t with holdEnd := some 7 })).tb.holdEnd = some 7 ∧
        7 ≤ (elapse 7 (ready.modTb fun t => { t with holdEnd := some 7 })).now) ∧
      (let s := ready.modTb fun t => { t with discipline := .acquiring, prevEdge := some 0 }
       (elapse 3000001 s).tb.discipline ≠ .freeRun ∧ (elapse 3000001 s).tb.prevEdge = some 0 ∧ 0 + 3000000 < (elapse 3000001 s).now) ∧
      (let s := (atCount 900000000 ready).modTb (fun t => { t with timeSet := true }) |>.modSu fun u => { u with record := .named 0 }
     nextTrigger (elapse 0 s) = some 1 ∧ postingOf (elapse 0 s) 1 ≤ (elapse 0 s).tb.reading) ∧
      heldHeadDue (elapse 0 ((atCount 8000000 threeQueued).modSu fun u =>
        { u with queue := [⟨63, .link, 1, .full, 20000000, 0, true⟩] })) = true :=
  ⟨fun _ _ => rfl, by decide +kernel⟩

theorem witness_PpsEdgeMovesDiscipline :
    inWindow (elapse 0 edgeTwo).tb.prevEdge (elapse 0 edgeTwo).now = true ∧ microField (elapse 0 edgeTwo) % 1000000 = 244 ∧
      (elapse 0 edgeTwo).tb.discipline = .acquiring := by decide +kernel

theorem witness_StepsWaitForIdleEngine :
    (engaged .coda).performing = true ∧ (engaged .coda).lp.mask.getLsbD 15 = false ∧ ready.performing = false := by decide +kernel

/-- Three entries hold 2000-01-01, a Saturday; entry 3 and entry 5 have the highest priority. -/
def newYear (priority programme : Nat) : SeasonEntry := ⟨true, 1, 1, 1, 1, 0x20, priority, programme⟩
def newYears : State :=
  ready.modSu fun u => { u with seasons := ((u.seasons.set 1 (newYear 1 4)).set 3 (newYear 2 5)).set 5 (newYear 2 6) }
theorem witness_ProgrammeOfADate :
    (newYears.su.seasons[3]? = some (newYear 2 5) ∧ (newYear 2 5).matchesDay 0 = true ∧
        (∀ (j : Nat) (f : SeasonEntry), newYears.su.seasons[j]? = some f → f.matchesDay 0 = true →
          f.priority < 2 ∨ f.priority = 2 ∧ 3 ≤ j)) ∧
      (∀ (j : Nat) (f : SeasonEntry), State.reset.su.seasons[j]? = some f → f.matchesDay 0 = false) ∧ monthDayOf 59 = (2, 29) := by
  have h1 : ∀ j : Fin 16, newYears.su.seasons[j].matchesDay 0 = true →
      newYears.su.seasons[j].priority < 2 ∨ newYears.su.seasons[j].priority = 2 ∧ 3 ≤ j.val := by decide +kernel
  have h2 : ∀ j : Fin 16, State.reset.su.seasons[j].matchesDay 0 = false := by decide +kernel
  refine ⟨⟨by decide +kernel, by decide +kernel, fun j f h => ?_⟩, fun j f h => ?_, by decide +kernel⟩
  · obtain ⟨hj, rfl⟩ := Vector.getElem?_eq_some_iff.mp h
    exact h1 ⟨j, hj⟩
  · obtain ⟨hj, rfl⟩ := Vector.getElem?_eq_some_iff.mp h
    exact h2 ⟨j, hj⟩

theorem witness_CalendarRoundTrip :
    3155759999999999 < 3155760000000000 ∧ validDateTime ⟨2099, 12, 31, 23, 59, 59, 999999⟩ = true ∧
      validDateTime ⟨2000, 2, 29, 0, 0, 0, 0⟩ = true := by decide +kernel

theorem witness_PostingKeepsFourRequests :
    threeQueued.su.queue.length < 4 ∧ fullQueue.su.queue.length = 4 ∧
      (fullQueue.su.queue = [queued .link 21] ++ queued .quarter 3 :: [queued .link 22, queued .quarter 4] ∧
        (queued .hour 7).origin = .hour ∧ (∀ x ∈ [queued .link 21], x.origin ≠ .quarter) ∧ (queued .quarter 3).origin = .quarter) ∧
      (queued .quarter 9).origin ≠ .hour ∧
      (let s := ready.modSu fun u => { u with queue := [queued .hour 1, queued .link 2, queued .link 3, queued .hour 4] }
       s.su.queue.length = 4 ∧ ∀ x ∈ s.su.queue, x.origin ≠ .quarter) ∧
      State.reset.partLocked = true ∧
      (let s := setPresentation .locked walkEnding
       s.su.queue.length ≤ 4 ∧ s.presenting = false ∧ (∀ e ∈ s.lu.directory, e.preroll ≤ 30000) ∧
         nextTrigger (recomputeTrigger s) = some 5) := by decide +kernel

theorem witness_TempoRunIsExact :
    let y : Synth := ⟨true, some ⟨0, 100⟩, none, 7200, 8680, 4000, 0, 7200, none⟩
    2000 ≤ 7200 ∧ 7200 ≤ 24000 ∧ y.tempo = 7200 ∧ y.divTempo = 7200 ∧ y.n = 62500000 / 7200 ∧ y.r = 62500000 % 7200 ∧ y.acc = 0 ∧
      y.ramp = none ∧ y.boundary = some ⟨0, 100⟩ := by decide

theorem witness_RampStaysLegal :
    let r : Ramp := ⟨24000, 2000, 7, 1, false⟩
    2000 ≤ r.t0 ∧ r.t0 ≤ 24000 ∧ 2000 ≤ r.target ∧ r.target ≤ 24000 ∧ 1 ≤ r.len := by decide

/-- The ready tower with a walk, a store operation and a transfer. -/
def storing (w : Option Walk) (o : Option StoreOp) (p : Option PortUse) : State :=
  ready.modLu fun u => { u with walk := w, storeOp := o, port := p }

theorem witness_StorePortCommands :
    (let w : Walk := ⟨.header, none, none, none⟩
     (elapse 0 (storing (some w) none (some ⟨.walk, w.phase.transfer, false⟩))).lu.walk = some w ∧
       (elapse 0 (storing (some w) none (some ⟨.walk, w.phase.transfer, false⟩))).lu.port = some ⟨.walk, w.phase.transfer, false⟩ ∧
       (List.replicate 16 (0 : Byte)).length = w.phase.transfer.returns) ∧
      (let w : Walk := ⟨.poll (some 0), none, none, none⟩
       (elapse 1000000 (storing (some w) none none)).lu.walk = some w ∧ w.phase = .poll (some 0) ∧
         0 + 1000000 ≤ (elapse 1000000 (storing (some w) none none)).now) ∧
      (let o : StoreOp := ⟨.read, 0, 1, [], .reading⟩
       (elapse 0 (storing none (some o) (some ⟨.store, .read 0 1, false⟩))).lu.storeOp = some o ∧
         (elapse 0 (storing none (some o) (some ⟨.store, .read 0 1, false⟩))).lu.port = some ⟨.store, .read 0 1, false⟩ ∧
         [(7 : Byte)].length = (Transfer.read 0 1).returns) ∧
      (StoreOp.phase ⟨.read, 0, 1, [], .poll (some 0)⟩ = .poll (some 0) ∧ 0 + 1000000 ≤ (elapse 1000000 ready).now) ∧
      (StoreOp.phase ⟨.write, 0, 1, [7], .after 0 true⟩ = .after 0 true ∧ 0 + 10000 ≤ (elapse 10000 ready).now) ∧
      (StoreOp.phase ⟨.erase, 0, 4096, [], .after 0 true⟩ = .after 0 true ∧ 0 + 1000000 ≤ (elapse 1000000 ready).now) :=
  ⟨⟨rfl, rfl, rfl⟩, ⟨rfl, rfl, by decide⟩, ⟨rfl, rfl, rfl⟩, ⟨rfl, by decide⟩, ⟨rfl, by decide⟩, ⟨rfl, by decide⟩⟩

theorem witness_ScoreBeginsAndGoesOn :
    let u := elapse 0 (engaged .preparing)
    (u.pe.engine = .preparing ∧ u.pe.perf = some playing63 ∧ preparationComplete u = true ∧ playing63.dueCount ≤ (u.now : Int)) ∧
      playing63.prepLimit ≤ ((elapse 30000000 (engaged .preparing)).now : Int) ∧
      (let s := (engaged .playing).modSynth fun y => { y with divEnd := some 8680 }
       (elapse 8680 s).pe.engine = .playing ∧ (elapse 8680 s).tb.synth.divEnd = some 8680 ∧ 8680 ≤ (elapse 8680 s).now) ∧
      ((elapse 5 (setHold (.wait 2 5 false) (engaged .playing))).pe.hold = .wait 2 5 false ∧
        5 ≤ (elapse 5 (setHold (.wait 2 5 false) (engaged .playing))).now) ∧
      ((elapse 500000 (setHold (.stall 0) (engaged .playing))).pe.hold = .stall 0 ∧
        0 + 500000 ≤ (elapse 500000 (setHold (.stall 0) (engaged .playing))).now) := by decide +kernel

theorem witness_PerformanceTimersAndHandoffs :
    (let s := (engaged .coda).modPe fun e => { e with codaStart := some 0 }
     (elapse 30000000 s).lu.profile = some tower ∧ (elapse 30000000 s).pe.engine = .coda ∧
       (elapse 30000000 s).pe.codaStart = some 0 ∧ 0 + tower.codaTimeoutS * 1000000 = 30000000 ∧
       30000000 ≤ (elapse 30000000 s).now) ∧
      (elapse 0 ((engaged .playing).modPe fun e => { e with supplyTimer := some 0 })).pe.supplyTimer = some 0 ∧
      (elapse 0 ((engaged .playing).modPe fun e => { e with thermalTimer := some 0 })).pe.thermalTimer = some 0 ∧
      ((elapse 0 (storing none none (some ⟨.prefetch, .read 4144 8, false⟩))).lu.port = some ⟨.prefetch, .read 4144 8, false⟩ ∧
        (List.replicate 8 (0 : Byte)).length = 8) ∧
      (let s := beginSelfTest ready
       (elapse 0 s).pe.engine = .selfTest ∧ (elapse 0 s).pe.selfTest.todo = [5] ∧
         (elapse 0 s).pe.selfTest.start + 500000 * (elapse 0 s).pe.selfTest.handed ≤ (elapse 0 s).now) := by decide +kernel

theorem witness_LogKeepsNewestSixteen : (engaged .coda).pe.perf = some playing63 := rfl

/-- A request of bell 5. -/
def strike5 (due : Nat) : StrikeRequest := ⟨5, 96, due, .test, none⟩

/-- The ready tower with bell 5's channel changed. -/
def channel5 (f : Channel → Channel) : State := ready.modChan 5 f

theorem witness_StrikeInstants :
    (let s := setStrikes [strike5 7] ready
     (elapse 7 s).st.queue = [strike5 7] ∧ (strike5 7).due ≤ (elapse 7 s).now ∧
       (strike5 7).due + (elapse 20008 s).slack + 1 ≤ (elapse 20008 s).now) ∧
      (let s := channel5 fun c => { c with state := .pulse, pulseEnd := 2000, presenceSeen := true }
       ((elapse 2000 s).chan 5).state = .pulse ∧ ((elapse 2000 s).chan 5).pulseEnd ≤ (elapse 2000 s).now ∧
         ((elapse 2000 s).chan 5).presenceSeen = true ∧ ((elapse 2000 s).chan 5).presenceJudged = false ∧
         min (((elapse 2000 s).chan 5).pulseStart + 2000) ((elapse 2000 s).chan 5).pulseEnd ≤ (elapse 2000 s).now) ∧
      (let s := channel5 fun c => { c with state := .recovery, recoveryEnd := some 60000 }
       ((elapse 60000 s).chan 5).state = .recovery ∧ ((elapse 60000 s).chan 5).recoveryEnd = some 60000 ∧ 60000 ≤ (elapse 60000 s).now) ∧
      (let s := channel5 fun c => { c with state := .pulse, tripAt := some 101 }
       ((elapse 101 s).chan 5).state = .pulse ∧ ((elapse 101 s).chan 5).tripAt = some 101 ∧ 101 ≤ (elapse 101 s).now) := by
  decide +kernel

theorem witness_ChannelInputsAndTimers :
    (let s := channel5 fun c => { c with state := .faultOff, offEnd := some 250000 }
     ((elapse 250000 s).chan 5).state = .faultOff ∧ ((elapse 250000 s).chan 5).offEnd = some 250000 ∧ 250000 ≤ (elapse 250000 s).now) ∧
      (elapse 100000 ready).now % 100000 = 0 ∧
      (((elapse 9 (channel5 fun c => { c with dampEnd := some 9 })).chan 5).dampEnd = some 9 ∧
        9 ≤ (elapse 9 (channel5 fun c => { c with dampEnd := some 9 })).now) ∧
      (((elapse 9 (channel5 fun c => { c with verification := .open 9 false })).chan 5).verification = .open 9 false ∧
        9 ≤ (elapse 9 (channel5 fun c => { c with verification := .open 9 false })).now) ∧
      (((elapse 0 (channel5 fun c => { c with state := .pulse })).chan 5).state = .pulse ∧
        ((elapse 0 (channel5 fun c => { c with state := .pulse })).chan 5).tripAt = none) := by decide +kernel

theorem witness_StrikeQueueStaysInOrder : [strike5 3, strike5 3, strike5 9].Pairwise (fun x y => x.due ≤ y.due) := by decide

theorem witness_PulseStaysWithinLimits :
    500000 ≤ bell5.hmax ∧ bell5.hwarn < bell5.hmax ∧ (computeStages bell5 2400 2400 127 0).w0 ≤ bell5.wlim ∧
      thermalDrop bell5 (computeStages bell5 2400 2160 96 430000) = false := by decide +kernel

theorem witness_ArrivalsAreDroppedOrPlaced :
    State.reset.muted = true ∧
      ((setStrikes (List.replicate 32 (strike5 9)) ready).muted = false ∧
        32 ≤ (setStrikes (List.replicate 32 (strike5 9)) ready).st.queue.length) ∧
      ((setStrikes [strike5 9] ready).st.queue = strike5 9 :: [] ∧ (strike5 9).due ≤ (strike5 9).due ∧ (strike5 8).due < (strike5 9).due ∧
        (setStrikes (List.replicate 31 (strike5 9)) ready).st.queue.length < 32) ∧ ready.st.queue = [] := by decide +kernel

theorem witness_HeadIsFiredOnlyWhenAdmitted :
    judgeHead (strike5 0) ready = .fire (stagesFor (strike5 0) ready) ∧
      judgeHead (strike5 0) (elapse 20001 (channel5 fun c => { c with state := .recovery })) = .drop .late none := by decide +kernel

/-- The ready tower with door 6 OPEN and axis 2's record changed. -/
def axis2 (f : AxisRecord → AxisRecord) : State := (ready.modDoor 6 fun _ => standing .open).modAxis 2 f

/-- A drive begun at 0. -/
def drive0 : Drive := ⟨.forward, .travel, 0, 0, none⟩

theorem witness_CountReversalAndDwell :
    (let u := elapse 0 (axis2 fun r => { r with state := .moving, target := some ⟨90, .host, some 1⟩, drive := some drive0 })
     u.axisProfile 2 = some carousel ∧ (u.axis 2).drive = some drive0 ∧ drive0.deadUntil = none ∧ (u.axis 2).state = .moving ∧
       (u.axis 2).target = some ⟨90, .host, some 1⟩ ∧ nextPosition carousel drive0.dir (u.axis 2).position ≠ 90 ∧
       nextPosition carousel drive0.dir 89 = 90) ∧
      (let u := elapse 0 (axis2 fun r => { r with state := .homing, drive := some drive0 })
       u.axisProfile 2 = some carousel ∧ (u.axis 2).drive = some drive0 ∧ (u.axis 2).state = .homing) ∧
      (let u := elapse 1000 (axis2 fun r => { r with state := .moving, drive := some { drive0 with deadUntil := some 1000 } })
       (u.axis 2).drive = some { drive0 with deadUntil := some 1000 } ∧
       ({ drive0 with deadUntil := some 1000 } : Drive).deadUntil.isSome = true ∧ 1000 ≤ u.now ∧ (u.door 2).drive = none) ∧
      (let u := elapse 5 (axis2 fun r => { r with state := .dwelling, dwellEnd := some 5 })
       (u.axis 2).state = .dwelling ∧ (u.axis 2).dwellEnd = some 5 ∧ 5 ≤ u.now) := by decide +kernel

/-- A LINEAR axis 2 in place of the carousel. -/
def linear : Profile := { tower with axes := tower.axes.set 2 { carousel with kind := .linear } }

theorem witness_SwitchCommands :
    (let u := elapse 0 (axis2 fun r => { r with state := .homing, drive := some drive0 })
     u.isDoor 2 = false ∧ (u.axis 2).state = .homing) ∧
      (let u := elapse 0 ((axis2 fun r => { r with state := .moving, drive := some drive0 }).modLu fun l => { l with profile := some linear })
       u.axisProfile 2 = some { carousel with kind := .linear } ∧ (u.door 2).state = .closed ∧
         (u.axis 2).drive = some drive0 ∧ drive0.dir = .forward) ∧
      (let u := elapse 0 (ready.modDoor 6 fun _ => standing .closing)
       u.isDoor 6 = true ∧ (u.door 6).state = .closing) ∧
      (let u := elapse 0 (ready.modDoor 6 fun _ => standing .opening)
       u.axisProfile 6 = some panel ∧ panel.kind = .door ∧ (u.door 6).state = .opening) ∧
      (let u := elapse 0 (ready.modDoor 6 fun _ => standing .open)
       u.isDoor 6 = true ∧ (u.door 6).state = .open ∧ (u.door 6).openLost = none) := by decide +kernel

theorem witness_DriveWatchesAndOffTimes :
    (let s := axis2 fun r => { r with state := .moving, drive := some drive0 }
     (elapse 20000000 s).axisProfile 2 = some carousel ∧ ((elapse 20000000 s).axis 2).drive = some drive0 ∧
       ((elapse 20000000 s).axis 2).tripAt = none ∧ ((elapse 20000000 s).door 2).drive = none ∧
       ((elapse 20000000 s).door 2).tripAt = none ∧ 0 + carousel.stallWindow * 1000 ≤ (elapse 20000000 s).now ∧
       0 + carousel.travelTimeout * 1000000 ≤ (elapse 20000000 s).now) ∧
      (let s := axis2 fun r => { r with state := .moving, drive := some drive0, tripAt := some 101 }
       ((elapse 101 s).axis 2).drive = some drive0 ∧ ((elapse 101 s).axis 2).tripAt = some 101 ∧ 101 ≤ (elapse 101 s).now) ∧
      (let s := ready.modDoor 6 fun _ => { standing .opening with drive := some drive0, tripAt := some 101 }
       (elapse 10000000 s).axisProfile 6 = some panel ∧ ((elapse 10000000 s).door 6).drive = some drive0 ∧
         ((elapse 10000000 s).door 6).tripAt = some 101 ∧ 0 + panel.travelTimeout * 1000000 ≤ (elapse 10000000 s).now) ∧
      (let s := axis2 fun r => { r with state := .faultOff, offEnd := some 7 }
       ((elapse 7 s).axis 2).state = .faultOff ∧ ((elapse 7 s).axis 2).offEnd = some 7 ∧ 7 ≤ (elapse 7 s).now) ∧
      (let s := ready.modDoor 6 fun _ => { standing .open with openLost := some 0 }
       (elapse 200001 s).isDoor 6 = true ∧ ((elapse 200001 s).door 6).state = .open ∧ ((elapse 200001 s).door 6).openLost = some 0) ∧
      ((elapse 7 (ready.modDoor 6 fun _ => { standing .fault with offEnd := some 7 })).door 6).offEnd = some 7 := by decide +kernel

theorem witness_CountsApproachTarget :
    (carousel.kind = .rotary ∧ carousel.policy = .shortest ∧ 359 ≠ 0 ∧ 359 < carousel.size ∧ 0 < carousel.size ∧
      Direction.forward = axisDirection carousel 359 0) ∧
      (AxisProfile.kind { carousel with kind := .linear } = .linear ∧ 1 ≠ 0 ∧
        Direction.reverse = axisDirection { carousel with kind := .linear } 1 0) := by decide

theorem witness_FollowerTargetsMirror :
    let p : AxisProfile := { carousel with follow := .mirror }
    p.kind = .rotary ∧ 359 < p.size ∧ 0 < p.size ∧ ({ p with kind := .linear } : AxisProfile).size = 360 ∧ TargetSource.host ≠ .home ∧
      p.follow = .mirror ∧ carousel.follow = .same ∧ homeTarget.source = .home := by decide

theorem witness_BarredTargetsAreDropped :
    State.reset.halted = true ∧ State.reset.partLocked = true ∧ ready.isFigure 0 = false ∧
      ((AxisRecord.reset).state = .unreferenced ∧ AxisRecord.reset.homeRequest = false) ∧ ((axis2 fun r => { r with state := .faultOff }).axis 2).state = .faultOff ∧
      ((axis2 fun r => { r with state := .lockedOut }).axis 2).state = .lockedOut := by decide +kernel

theorem witness_AxisFaultLeaves :
    carousel.autoretry = true ∧ homed.faultCount < 2 ∧ AxisProfile.autoretry { carousel with autoretry := false } = false ∧
      2 ≤ AxisRecord.faultCount { homed with faultCount := 2 } := by decide

theorem witness_ServiceInputs :
    (let s := (ready.modPins fun p => { p with serviceReq := true }).modSv fun v => { v with reqArmed := true }
     (elapse 50000 s).pins.serviceReq = true ∧ (elapse 50000 s).sv.reqArmed = true ∧ (elapse 50000 s).sv.reqFrom + 50000 = 50000 ∧
       50000 ≤ (elapse 50000 s).now) ∧
      (elapse 0 ready).pins.serviceReq = false ∧ (elapse 9 (setLamp (.blink true 9) ready)).sv.lamp = .blink true 9 ∧
      (elapse 0 ready).sv.hatchOpen = false ∧
      (let s := (ready.modPins fun p => { p with hatchOpen := true }).modSv fun v => { v with hatchOpen := true }
       (elapse 0 s).pins.hatchOpen = true ∧ (elapse 0 s).sv.hatchOpen = true) ∧
      (elapse 50000 (ready.modSv fun v => { v with hatchClosedFrom := some 0 })).sv.hatchClosedFrom = some 0 := by decide +kernel

theorem witness_MonitorSamplesAndCodes :
    (LinkReady ready ∧ codesOk 0x01 (5 : Byte).toNat 0x09 (6 : Byte).toNat = true ∧
      codesOk 0x01 (8 : Byte).toNat 0x03 (8 : Byte).toNat = true) ∧ (elapse 1000 ready).now % 1000 = 0 ∧ ((elapse 10000 ready).now % 10000 = 0 ∧ (-40 : Int) ≤ -40 ∧ (200 : Int) ≤ 200) ∧
      (elapse 500 ready).now % 1000 = 500 ∧
      (elapse 0 (ready.modSv fun v => { v with hushCode := { v.hushCode with blockOver := true } })).sv.hushCode.blockOver = true :=
  ⟨⟨link_ready, by decide +kernel⟩, by decide +kernel⟩

theorem witness_SupplyTableSettles :
    tower.vuv < tower.vwarn ∧ 1599 < tower.vuv ∧ tower.vwarn + 20 ≤ 2020 ∧ tower.vuv + 50 ≤ 2020 := by decide

theorem witness_CodeBlocksPassAndFail : codeOk 0x01 5 = true ∧ 4 < 5 ∧ codeOk 0xFE 8 = true ∧ 7 < 8 := by decide +kernel

theorem still_of_rest (s : State) (ha : ∀ a : Axis, s.axis a = homed) (hd : ∀ d : Axis, s.door d = standing .closed) : MotionStill s := by
  refine ⟨fun a => ?_, fun d => ?_⟩
  · rw [ha a]; decide
  · rw [hd d]; decide

/-- No bell of the ready tower is in a pulse. -/
theorem ready_strike_safe : StrikeSafe ready :=
  ⟨fun _ _ => by decide +kernel, fun h => absurd h (by decide +kernel), fun h => absurd h (by decide +kernel), by decide, List.Pairwise.nil⟩

theorem ready_still : MotionStill ready := still_of_rest ready (by decide +kernel) (by decide +kernel)

theorem ready_motion_safe : MotionSafe ready := by
  have ha : ∀ a : Axis, ready.axis a = homed := by decide +kernel
  have hd : ∀ d : Axis, ready.door d = standing .closed := by decide +kernel
  refine ⟨fun a h => ?_, fun d h => ?_, fun _ => ready_still, fun h => ?_, fun d a _ h => ?_, fun p hp => ?_, fun w p hw _ => ?_⟩
  · rw [ha a] at h; exact absurd h (by decide)
  · rw [hd d] at h; exact absurd h (by decide)
  · exact absurd h (by decide)
  · rw [ha a] at h; exact absurd h (by decide)
  · cases hp
    unfold Profile.LeadersApart
    decide +kernel
  · exact absurd hw (by simp [ready])

/-- The ready tower with THERMAL standing. -/
def hot : State := ready.modSv fun u => { u with mute := { u.mute with thermal := true } }

theorem hot_strike_safe : StrikeSafe hot :=
  ⟨fun _ _ => by decide +kernel, fun _ => by decide +kernel, fun _ => by decide +kernel, by decide, List.Pairwise.nil⟩

theorem hot_motion_safe : MotionSafe hot :=
  let h := ready_motion_safe
  ⟨h.axisDrive, h.doorDrive, fun _ => ready_still, h.walkLocked, h.interlock, h.leaders, h.validated⟩

/-- No halt reason stands in the ready tower, whose pulse of bell 5 is safe. -/
theorem flying_strike_safe : StrikeSafe flying :=
  ⟨fun h => absurd h (by decide +kernel), fun h => absurd h (by decide +kernel), fun h => absurd h (by decide +kernel), by decide,
    List.Pairwise.nil⟩

theorem flying_motion_safe : MotionSafe flying :=
  let h := ready_motion_safe
  ⟨h.axisDrive, h.doorDrive, fun _ => ready_still, h.walkLocked, h.interlock, h.leaders, h.validated⟩

theorem witness_HaltReasonTakesPower :
    (State.reset.sv.mute.has .supply = true) ∧ State.reset.sv.mute.supply = true ∧ flying.sv.mute.has .supply = false ∧
      flying.halted = false ∧ (flying.chan 5).state = .pulse ∧ (flying.chan 6).state ≠ .pulse ∧ MotionSafe flying ∧ StrikeSafe flying ∧
      hot.halted = true ∧ MotionSafe hot ∧ StrikeSafe hot ∧
      driving.isGuarded 6 2 = true ∧ ((driving.axis 2).drive.any (·.gate .forward)) = true :=
  ⟨by decide +kernel, by decide +kernel, by decide +kernel, by decide +kernel, by decide +kernel, by decide +kernel, flying_motion_safe,
    flying_strike_safe, by decide +kernel, hot_motion_safe, hot_strike_safe, by decide +kernel, by decide +kernel⟩

theorem witness_PowerOnGivesResetState : State.reset.pins = Pins.reset ∧ State.reset.pending = [] := ⟨rfl, rfl⟩

theorem witness_SoftResetKeeps :
    ready.tb.pendingStep = none ∧
      (ready.modTb fun t => { t with pendingStep := some ⟨-1, .host⟩ }).tb.pendingStep = some ⟨-1, .host⟩ := ⟨rfl, rfl⟩

/-- A step from the ready tower with a command at the front of its queue. -/
theorem witness_EveryStepKeepsMotionSafe :
    MotionSafe ready ∧ ∃ t, step (ready.withPending [.moveAxis 0 1 [2, 1]]) = .next t := ⟨ready_motion_safe, _, rfl⟩

theorem witness_EveryStepKeepsStrikeSafe :
    StrikeSafe ready ∧ ∃ t, step (ready.withPending [.strikeTest 0 1 [5, 96]]) = .next t := ⟨ready_strike_safe, _, rfl⟩

/-- The ready tower with bell 5 in a pulse that holds its current. -/
theorem witness_EveryStepKeepsCurrentSafe :
    (let s := (channel5 fun c => { c with state := .pulse, admitted := 2500 }).modSt fun u => { u with sum := 2500 }
     CurrentSafe s) ∧ ∃ t, step (ready.withPending [.strikeTest 0 1 [5, 96]]) = .next t :=
  ⟨⟨by decide +kernel, by decide +kernel⟩, _, rfl⟩

/-- The ready tower with bell 5 at its Hmax. -/
theorem witness_EveryStepKeepsHeatSafe :
    HeatSafe (channel5 fun c => { c with heat := 500000 }) ∧ ∃ t, step (ready.withPending [.strikeTest 0 1 [5, 96]]) = .next t :=
  ⟨by unfold HeatSafe; decide +kernel, _, rfl⟩

/-- Four requests behind eight replies. -/
theorem witness_EveryStepKeepsLinkSafe :
    (let r : Reply := ⟨0x81, 1, .ok, []⟩
     LinkSafe (ready.modLp fun l =>
       { l with tx := .reply r, replies := List.replicate 8 r, requests := List.replicate 4 ⟨0x01, 1, []⟩ })) ∧
      ∃ t, step (ready.withPending [.transmitEnd 0]) = .next t :=
  ⟨⟨by decide, by decide, .inr (by decide), nofun⟩, _, rfl⟩

theorem witness_EveryStepKeepsQueueSafe :
    QueueSafe threeQueued ∧ ∃ t, step (threeQueued.withPending [.getQueue 0 1 []]) = .next t :=
  ⟨⟨by decide, fun h => absurd h (by decide +kernel)⟩, _, rfl⟩

theorem witness_EveryCommandKeepsTheClock : ∀ b1 b0, Instr.transmitEnd 7 ≠ .powerOnReset b1 b0 := by decide

end Sys2Proof.Machine.Tests
end

section
/-! SUPPORT. The frame of the Motion Unit's operations: what each of them leaves unchanged outside its block (`OnlyMotion`), in the
order of Machine/Motion.lean and Machine/Doors.lean. Each lemma says that an operation applied at `t` keeps what `t` has kept of `s`. -/

namespace Sys2Proof.Machine

variable {s t : State}

/-! ## Single updates -/

theorem modAxis_onlyMotion (a : Axis) (f : AxisRecord → AxisRecord) (h : OnlyMotion s t) : OnlyMotion s (t.modAxis a f) :=
  h.trans (.modAxis a f t)

theorem modDoor_onlyMotion (d : Axis) (f : DoorRecord → DoorRecord) (h : OnlyMotion s t) : OnlyMotion s (t.modDoor d f) :=
  h.trans (.modDoor d f t)

theorem raise_onlyMotion (k : Kind) (h : OnlyMotion s t) : OnlyMotion s (raise k t) := h.trans (.raise k t)

theorem forEach_onlyMotion {α : Type} {f : α → State → State} (hf : ∀ x {t}, OnlyMotion s t → OnlyMotion s (f x t)) (l : List α)
    (h : OnlyMotion s t) : OnlyMotion s (forEach f l t) :=
  forEach_keeps (P := OnlyMotion s) (fun x _ => hf x) l t h

/-! ## Faults and targets -/

theorem axisFault_onlyMotion (k : AxisFaultKind) (a : Axis) (h : OnlyMotion s t) : OnlyMotion s (axisFault k a t) := by
  unfold axisFault
  split
  · exact h
  · exact raise_onlyMotion _ (modAxis_onlyMotion a _ h)

theorem judgeLimit_onlyMotion (a : Axis) (h : OnlyMotion s t) : OnlyMotion s (judgeLimit a t) := by
  unfold judgeLimit
  split
  · exact h
  · split
    · exact axisFault_onlyMotion _ a h
    · exact h

theorem driveToTarget_onlyMotion (a : Axis) (h : OnlyMotion s t) : OnlyMotion s (driveToTarget a t) := by
  unfold driveToTarget
  split
  · exact judgeLimit_onlyMotion a (modAxis_onlyMotion a _ h)
  · exact h

theorem beginMove_onlyMotion (a : Axis) (h : OnlyMotion s t) : OnlyMotion s (beginMove a t).1 := by
  unfold beginMove
  split
  · exact driveToTarget_onlyMotion a h
  · split
    · exact driveToTarget_onlyMotion a h
    all_goals
      dsimp only
      exact modAxis_onlyMotion a _ h

theorem retarget_onlyMotion (g : Target) (a : Axis) (h : OnlyMotion s t) : OnlyMotion s (retarget g a t) := by
  unfold retarget
  split
  · exact h
  · exact judgeLimit_onlyMotion a (modAxis_onlyMotion a _ h)

/-- Every row of the table of R138 updates the axis's record, or begins or sets up afresh its drive. -/
theorem giveOne_cases (g : Target) (a : Axis) (t : State) :
    (∃ f x, giveOne g a t = (t.modAxis a f, x)) ∨ giveOne g a t = (retarget g a t, .pursued) ∨
      ∃ f, giveOne g a t = beginMove a (t.modAxis a f) := by
  unfold giveOne
  dsimp only
  split
  · exact .inl ⟨_, _, rfl⟩
  · cases (t.axis a).state with
    | faultOff | lockedOut | homing => exact .inl ⟨_, _, rfl⟩
    | unreferenced => dsimp only; split <;> exact .inl ⟨_, _, rfl⟩
    | waitDoor => dsimp only; split_ifs <;> exact .inl ⟨_, _, rfl⟩
    | moving => exact .inr (.inl rfl)
    | idle | dwelling =>
      dsimp only
      split
      · exact .inl ⟨_, _, rfl⟩
      · exact .inr (.inr ⟨_, rfl⟩)

theorem giveOne_onlyMotion (g : Target) (a : Axis) (h : OnlyMotion s t) : OnlyMotion s (giveOne g a t).1 := by
  obtain ⟨f, x, he⟩ | he | ⟨f, he⟩ := giveOne_cases g a t <;> rw [he]
  · exact modAxis_onlyMotion a f h
  · exact retarget_onlyMotion g a h
  · exact beginMove_onlyMotion a (modAxis_onlyMotion a f h)

theorem passOn_onlyMotion (g : Target) (a : Axis) (h : OnlyMotion s t) : OnlyMotion s (passOn g a t) := by
  refine forEach_onlyMotion (fun f t h => ?_) allAxes h
  split
  · exact h
  · split
    · exact giveOne_onlyMotion _ f h
    · exact h

/-! ## Pose lists -/

theorem reportLastStep_onlyMotion (a : Axis) (h : OnlyMotion s t) : OnlyMotion s (reportLastStep a t) :=
  h.trans ⟨rfl, rfl, rfl, rfl, rfl, rfl, rfl, rfl, rfl⟩

section
variable {next : State → State} (hn : ∀ {t}, OnlyMotion s t → OnlyMotion s (next t))
include hn

theorem stepReached_onlyMotion (a : Axis) (h : OnlyMotion s t) : OnlyMotion s (stepReached next a t) := by
  unfold stepReached
  split
  · exact h
  · dsimp only
    split_ifs
    · exact hn (reportLastStep_onlyMotion a (modAxis_onlyMotion a _ h))
    · exact hn (modAxis_onlyMotion a _ h)
    · exact reportLastStep_onlyMotion a (modAxis_onlyMotion a _ h)
    · exact modAxis_onlyMotion a _ h

theorem giveWith_onlyMotion (g : Target) (a : Axis) (h : OnlyMotion s t) : OnlyMotion s (giveWith next g a t) := by
  have hg := giveOne_onlyMotion g a h
  have hp : OnlyMotion s (if (giveOne g a t).2 = .dropped then (giveOne g a t).1 else passOn g a (giveOne g a t).1) := by
    split
    · exact hg
    · exact passOn_onlyMotion g a hg
  unfold giveWith
  dsimp only
  split
  · exact stepReached_onlyMotion hn a hp
  · exact hp

theorem giveStep_onlyMotion (a : Axis) (h : OnlyMotion s t) : OnlyMotion s (giveStep next a t) := by
  unfold giveStep
  split
  · exact giveWith_onlyMotion hn _ a h
  · exact h

end

theorem dwellNext_onlyMotion (a : Axis) : ∀ (fuel : Nat) {t : State}, OnlyMotion s t → OnlyMotion s (dwellNext fuel a t)
  | 0, _, h => h
  | fuel + 1, t, h => by
    have hn : ∀ {t}, OnlyMotion s t → OnlyMotion s (dwellNext fuel a t) := dwellNext_onlyMotion a fuel
    unfold dwellNext
    split
    · exact h
    · split_ifs
      · exact giveWith_onlyMotion (next := id) id _ a (modAxis_onlyMotion a _ h)
      · exact giveStep_onlyMotion hn a (modAxis_onlyMotion a _ h)
      · exact giveStep_onlyMotion hn a (modAxis_onlyMotion a _ h)
      · exact modAxis_onlyMotion a _ h

theorem give_onlyMotion (g : Target) (a : Axis) (h : OnlyMotion s t) : OnlyMotion s (give g a t) :=
  giveWith_onlyMotion (dwellNext_onlyMotion a listFuel) g a h

theorem startList_onlyMotion (id : Nat) (l : PoseList) (a : Axis) (h : OnlyMotion s t) : OnlyMotion s (startList id l a t) :=
  giveStep_onlyMotion (dwellNext_onlyMotion a listFuel) a (modAxis_onlyMotion a _ h)

theorem sendHomeAfterStep_onlyMotion (a : Axis) (h : OnlyMotion s t) : OnlyMotion s (sendHomeAfterStep a t) := by
  unfold sendHomeAfterStep
  split
  · exact modAxis_onlyMotion a _ h
  · exact give_onlyMotion _ a h

/-! ## Homing and counts -/

theorem endHoming_onlyMotion (a : Axis) (h : OnlyMotion s t) : OnlyMotion s (endHoming a t) := by
  have h1 := modAxis_onlyMotion a AxisRecord.atHome h
  unfold endHoming takeHeld
  split
  · exact h1
  · split
    · exact give_onlyMotion _ a (modAxis_onlyMotion a _ h1)
    · exact h1

theorem beginHomingDrive_onlyMotion (a : Axis) (h : OnlyMotion s t) : OnlyMotion s (beginHomingDrive a t) := by
  unfold beginHomingDrive
  split
  · exact h
  · exact modAxis_onlyMotion a _ h

theorem beginHoming_onlyMotion (a : Axis) (h : OnlyMotion s t) : OnlyMotion s (beginHoming a t) := by
  unfold beginHoming
  split
  · exact endHoming_onlyMotion a h
  · split
    · exact beginHomingDrive_onlyMotion a h
    · split
      · exact beginHomingDrive_onlyMotion a h
      · exact modAxis_onlyMotion a _ h

theorem requestHome_onlyMotion (a : Axis) (h : OnlyMotion s t) : OnlyMotion s (requestHome a t) := by
  unfold requestHome
  split
  · exact modAxis_onlyMotion a _ h
  · exact h

theorem startWaiter_onlyMotion (a : Axis) (h : OnlyMotion s t) : OnlyMotion s (startWaiter a t) := by
  unfold startWaiter
  split_ifs
  · exact endHoming_onlyMotion a h
  · exact beginHomingDrive_onlyMotion a h
  · exact driveToTarget_onlyMotion a h
  · exact h

theorem arrive_onlyMotion (g : Target) (a : Axis) (h : OnlyMotion s t) : OnlyMotion s (arrive g a t) := by
  unfold arrive
  dsimp only
  split
  · exact stepReached_onlyMotion (dwellNext_onlyMotion a listFuel) a (modAxis_onlyMotion a _ h)
  · exact modAxis_onlyMotion a _ h

theorem countAxis_onlyMotion (a : Axis) (h : OnlyMotion s t) : OnlyMotion s (countAxis a t) := by
  unfold countAxis
  split
  · split
    · exact h
    · have h1 := fun f => modAxis_onlyMotion a f h
      dsimp only
      split
      · split
        · exact arrive_onlyMotion _ a (modAxis_onlyMotion a _ (h1 _))
        · exact modAxis_onlyMotion a _ (modAxis_onlyMotion a _ (h1 _))
      · exact h1 _
  · exact h

/-! ## Doors -/

theorem syncMembers_onlyMotion (d : Axis) (h : OnlyMotion s t) : OnlyMotion s (syncMembers d t) := by
  unfold syncMembers
  split <;> exact modDoor_onlyMotion d _ h

theorem enterOpen_onlyMotion (d : Axis) (h : OnlyMotion s t) : OnlyMotion s (enterOpen d t) :=
  forGuarded_keeps (P := OnlyMotion s) (fun a _ _ => startWaiter_onlyMotion a) (modDoor_onlyMotion d _ h)

theorem enterOpening_onlyMotion (d : Axis) (h : OnlyMotion s t) : OnlyMotion s (enterOpening d t) := by
  unfold enterOpening
  split
  · exact enterOpen_onlyMotion d h
  · exact modDoor_onlyMotion d _ h

theorem enterClosing_onlyMotion (d : Axis) (h : OnlyMotion s t) : OnlyMotion s (enterClosing d t) := by
  unfold enterClosing
  split <;> exact modDoor_onlyMotion d _ h

theorem judgeDoor_onlyMotion (d : Axis) (h : OnlyMotion s t) : OnlyMotion s (judgeDoor d t) := by
  unfold judgeDoor
  split
  · exact h
  · exact enterOpening_onlyMotion d h
  · exact enterClosing_onlyMotion d h
  · exact modDoor_onlyMotion d _ h

theorem doorFault_onlyMotion (k : DoorFaultKind) (trip : Option Nat) (d : Axis) (h : OnlyMotion s t) :
    OnlyMotion s (doorFault k trip d t) :=
  raise_onlyMotion _ (forGuarded_keeps (P := OnlyMotion s) (fun a _ _ => modAxis_onlyMotion a _) (modDoor_onlyMotion d _ h))

theorem doorOverCurrent_onlyMotion (d : Axis) (h : OnlyMotion s t) : OnlyMotion s (doorOverCurrent d t) := by
  unfold doorOverCurrent
  split
  · exact h
  · have h1 := fun k trip => modDoor_onlyMotion d (fun r => { r with faultCount := min (r.faultCount + 1) 3 })
      (doorFault_onlyMotion k trip d h)
    dsimp only
    split
    · exact modDoor_onlyMotion d _ (h1 _ _)
    · exact h1 _ _

theorem haltDoor_onlyMotion (d : Axis) (h : OnlyMotion s t) : OnlyMotion s (haltDoor d t) := by
  unfold haltDoor
  split
  iterate 2 exact modDoor_onlyMotion d _ (doorFault_onlyMotion _ _ d h)
  all_goals exact h

theorem releaseDoor_onlyMotion (d : Axis) (h : OnlyMotion s t) : OnlyMotion s (releaseDoor d t) := by
  unfold releaseDoor
  dsimp only
  split
  · exact enterOpening_onlyMotion d (modDoor_onlyMotion d _ h)
  · exact enterClosing_onlyMotion d (modDoor_onlyMotion d _ h)

theorem demandDoors_onlyMotion (set : AxisSet) (f : DoorRecord → DoorRecord) (h : OnlyMotion s t) :
    OnlyMotion s (demandDoors set f t) :=
  demandDoors_keeps (P := OnlyMotion s)
    (fun d _ h => judgeDoor_onlyMotion d (modDoor_onlyMotion d f (syncMembers_onlyMotion d h))) h

/-! ## What follows at once, and parks -/

theorem motionPass_onlyMotion (h : OnlyMotion s t) : OnlyMotion s (motionPass t) :=
  motionPass_keeps (P := OnlyMotion s) (fun d _ => syncMembers_onlyMotion d) (fun a _ _ => beginHoming_onlyMotion a)
    (fun d _ => releaseDoor_onlyMotion d) (fun d _ => judgeDoor_onlyMotion d) h

theorem settleMotion_onlyMotion (h : OnlyMotion s t) : OnlyMotion s (settleMotion t) :=
  settleMotionFor_keeps (P := OnlyMotion s) (fun _ => motionPass_onlyMotion) 16 t h

theorem park_onlyMotion (h : OnlyMotion s t) : OnlyMotion s (park t) :=
  demandDoors_onlyMotion _ _ (forFigures_keeps (P := OnlyMotion s) (fun a _ _ => give_onlyMotion _ a) h)

end Sys2Proof.Machine
end

section
/-! SUPPORT. The frame of the Strike Unit's operations: what each of them leaves unchanged outside its block (`OnlyStrikes`), in the
order of Machine/Strike.lean. -/

namespace Sys2Proof.Machine

variable {s t : State}

/-! ## Single updates and reports -/

theorem modChan_onlyStrikes (b : Bell) (f : Channel → Channel) (h : OnlyStrikes s t) : OnlyStrikes s (t.modChan b f) :=
  h.trans (.modChan b f t)

theorem modSt_onlyStrikes (f : StrikeUnit → StrikeUnit) (h : OnlyStrikes s t) : OnlyStrikes s (t.modSt f) := h.trans (.modSt f t)

theorem setStrikes_onlyStrikes (l : List StrikeRequest) (h : OnlyStrikes s t) : OnlyStrikes s (setStrikes l t) :=
  modSt_onlyStrikes _ h

theorem modPe_onlyStrikes {f : PerformanceEngine → PerformanceEngine} (hf : (f t.pe).besideReports = t.pe.besideReports)
    (h : OnlyStrikes s t) : OnlyStrikes s (t.modPe f) := h.trans (.modPe hf)

theorem raise_onlyStrikes (k : Kind) (h : OnlyStrikes s t) : OnlyStrikes s (raise k t) := h.trans (.raise k t)

theorem setLevel_onlyStrikes (v : Level) (on : Bool) (h : OnlyStrikes s t) : OnlyStrikes s (setLevel v on t) :=
  h.trans (.setLevel v on t)

theorem forEach_onlyStrikes {α : Type} {f : α → State → State} (hf : ∀ x {t}, OnlyStrikes s t → OnlyStrikes s (f x t)) (l : List α)
    (h : OnlyStrikes s t) : OnlyStrikes s (forEach f l t) :=
  forEach_keeps (P := OnlyStrikes s) (fun x _ => hf x) l t h

/-- A change of a performance that R75 allows a report: its counters and MUTED_PART alone. -/
def IsReport (f : Performance → Performance) : Prop := ∀ p, (f p).besideReports = p.besideReports

theorem isReport_id : IsReport id := fun _ => rfl
theorem isReport_countFired : IsReport Performance.countFired := fun _ => rfl
theorem isReport_countMiss : IsReport Performance.countMiss := fun _ => rfl
theorem isReport_countDropped (r : DropReason) : IsReport (Performance.countDropped r) := fun _ => rfl

theorem reportPerf_onlyStrikes (seq : Option Nat) {f : Performance → Performance} (hf : IsReport f) (h : OnlyStrikes s t) :
    OnlyStrikes s (reportPerf seq f t) := by
  unfold reportPerf
  split
  · refine modPe_onlyStrikes ?_ h
    have hp : ∀ p : Performance, (if seq = some p.seq then f p else p).besideReports = p.besideReports := by
      intro p
      split
      · exact hf p
      · rfl
    simp only [PerformanceEngine.besideReports, Option.map_map, Function.comp_def, hp]
  · exact h

theorem reportTest_onlyStrikes (b : Bell) (r : BellResult) (h : OnlyStrikes s t) : OnlyStrikes s (reportTest b r t) := by
  unfold reportTest
  split
  · exact modPe_onlyStrikes rfl h
  · exact h

theorem reportOrigin_onlyStrikes (q : StrikeRequest) {f : Performance → Performance} (hf : IsReport f) (r : Option BellResult)
    (h : OnlyStrikes s t) : OnlyStrikes s (reportOrigin q f r t) := by
  unfold reportOrigin
  split
  · exact reportPerf_onlyStrikes _ hf h
  · exact h
  · split
    · exact reportTest_onlyStrikes _ _ h
    · exact h

/-! ## Quality counter and heat -/

theorem qualityCount_onlyStrikes (h : OnlyStrikes s t) : OnlyStrikes s (qualityCount t) := by
  obtain ⟨g, he | he⟩ := qualityCount_cases t <;> rw [he]
  · exact modSt_onlyStrikes g h
  · exact raise_onlyStrikes _ (modSt_onlyStrikes g h)

theorem qualityDrop_onlyStrikes (r : DropReason) (h : OnlyStrikes s t) : OnlyStrikes s (qualityDrop r t) := by
  unfold qualityDrop
  split
  · exact qualityCount_onlyStrikes h
  · exact h

theorem qualityMiss_onlyStrikes (h : OnlyStrikes s t) : OnlyStrikes s (qualityMiss t) := by
  unfold qualityMiss
  split
  · exact qualityCount_onlyStrikes h
  · exact h

theorem judgeThermal_onlyStrikes (b : Bell) (h : OnlyStrikes s t) : OnlyStrikes s (judgeThermal b t) := modChan_onlyStrikes b _ h

theorem reportWarm_onlyStrikes (h : OnlyStrikes s t) : OnlyStrikes s (reportWarm t) := setLevel_onlyStrikes _ _ h

theorem decayBell_onlyStrikes (b : Bell) (h : OnlyStrikes s t) : OnlyStrikes s (decayBell b t) := by
  unfold decayBell
  split
  · exact judgeThermal_onlyStrikes b (modChan_onlyStrikes b _ h)
  · exact h

/-! ## Drops, verdicts, firing -/

theorem dropStrike_onlyStrikes (r : DropReason) (g : Option Stages) (q : StrikeRequest) (h : OnlyStrikes s t) :
    OnlyStrikes s (dropStrike r g q t) := by
  unfold dropStrike
  exact reportOrigin_onlyStrikes q (isReport_countDropped r) _ (qualityDrop_onlyStrikes r (modSt_onlyStrikes _ (modChan_onlyStrikes _ _ h)))

theorem verdict_onlyStrikes (b : Bell) (heard : Bool) (h : OnlyStrikes s t) : OnlyStrikes s (verdict b heard t) := by
  have h1 := fun f => modChan_onlyStrikes b f h
  unfold verdict
  cases heard with
  | true =>
    simp only [if_true]
    split
    · exact h1 _
    · exact reportOrigin_onlyStrikes _ isReport_id _ (h1 _)
  | false =>
    simp only [Bool.false_eq_true, if_false]
    split
    · exact qualityMiss_onlyStrikes (h1 _)
    · exact reportOrigin_onlyStrikes _ isReport_countMiss _ (qualityMiss_onlyStrikes (h1 _))

theorem closeVerification_onlyStrikes (b : Bell) (h : OnlyStrikes s t) : OnlyStrikes s (closeVerification b t) := by
  unfold closeVerification
  split
  · exact h
  · exact verdict_onlyStrikes b _ h
  · exact verdict_onlyStrikes b _ h

theorem fireStrike_onlyStrikes (q : StrikeRequest) (g : Stages) (h : OnlyStrikes s t) : OnlyStrikes s (fireStrike q g t) := by
  unfold fireStrike
  exact reportOrigin_onlyStrikes q isReport_countFired _ (reportWarm_onlyStrikes (judgeThermal_onlyStrikes _ (modSt_onlyStrikes _
    (modChan_onlyStrikes _ _ (closeVerification_onlyStrikes _ h)))))

/-! ## The queue -/

theorem examineStrikes_onlyStrikes (h : OnlyStrikes s t) : OnlyStrikes s (examineStrikes t) :=
  examineFrom_keeps (P := OnlyStrikes s) (fun l _ => setStrikes_onlyStrikes l) (fun r g q _ _ => dropStrike_onlyStrikes r g q)
    (fun q g _ _ => fireStrike_onlyStrikes q g) _ t h

theorem strikeArrives_onlyStrikes (q : StrikeRequest) (h : OnlyStrikes s t) : OnlyStrikes s (strikeArrives q t) := by
  unfold strikeArrives
  split
  · exact dropStrike_onlyStrikes _ _ q h
  · split
    · exact dropStrike_onlyStrikes _ _ q h
    · dsimp only
      split
      · exact examineStrikes_onlyStrikes (setStrikes_onlyStrikes _ h)
      · exact setStrikes_onlyStrikes _ h

theorem dropStrikes_onlyStrikes (r : DropReason) (h : OnlyStrikes s t) : OnlyStrikes s (dropStrikes r t) :=
  setStrikes_onlyStrikes _ (forEach_onlyStrikes (fun q _ => dropStrike_onlyStrikes r none q) _ h)

theorem flushStrikes_onlyStrikes (h : OnlyStrikes s t) : OnlyStrikes s (flushStrikes t) := dropStrikes_onlyStrikes _ h

/-! ## Ends of a pulse -/

theorem releaseCoil_onlyStrikes (b : Bell) (k : PulseEndKind) (h : OnlyStrikes s t) : OnlyStrikes s (releaseCoil b k t) := by
  unfold releaseCoil
  exact modSt_onlyStrikes _ (modChan_onlyStrikes b _ h)

theorem cutPulse_onlyStrikes (b : Bell) (k : PulseEndKind) (h : OnlyStrikes s t) : OnlyStrikes s (cutPulse b k t) := by
  have h1 := fun f => modChan_onlyStrikes b f (releaseCoil_onlyStrikes b k h)
  unfold cutPulse
  dsimp only
  split
  · exact h1 _
  · exact reportOrigin_onlyStrikes _ isReport_id _ (h1 _)

theorem enterRecovery_onlyStrikes (b : Bell) (h : OnlyStrikes s t) : OnlyStrikes s (enterRecovery b t) := by
  unfold enterRecovery
  exact modChan_onlyStrikes b _ h

theorem verifyCleanEnd_onlyStrikes (b : Bell) (h : OnlyStrikes s t) : OnlyStrikes s (verifyCleanEnd b t) := by
  have h1 := fun f => modChan_onlyStrikes b f h
  unfold verifyCleanEnd
  split
  · exact h
  · exact verdict_onlyStrikes b _ h
  · dsimp only
    split
    · exact h1 _
    · exact reportOrigin_onlyStrikes _ isReport_id _ (h1 _)

theorem endPulseClean_onlyStrikes (b : Bell) (h : OnlyStrikes s t) : OnlyStrikes s (endPulseClean b t) :=
  examineStrikes_onlyStrikes (verifyCleanEnd_onlyStrikes b (enterRecovery_onlyStrikes b (modChan_onlyStrikes b _
    (releaseCoil_onlyStrikes b _ h))))

theorem openCoil_onlyStrikes (b : Bell) (h : OnlyStrikes s t) : OnlyStrikes s (openCoil b t) :=
  examineStrikes_onlyStrikes (raise_onlyStrikes _ (modChan_onlyStrikes b _ (cutPulse_onlyStrikes b _ h)))

theorem bellOverCurrent_onlyStrikes (b : Bell) (h : OnlyStrikes s t) : OnlyStrikes s (bellOverCurrent b t) :=
  examineStrikes_onlyStrikes (raise_onlyStrikes _ (modChan_onlyStrikes b _ (cutPulse_onlyStrikes b _ h)))

theorem haltPulse_onlyStrikes (cut : Bool) (b : Bell) (h : OnlyStrikes s t) : OnlyStrikes s (haltPulse cut b t) := by
  unfold haltPulse
  split
  · exact enterRecovery_onlyStrikes b (cutPulse_onlyStrikes b _ h)
  · exact h

theorem haltDamper_onlyStrikes (b : Bell) (h : OnlyStrikes s t) : OnlyStrikes s (haltDamper b t) := modChan_onlyStrikes b _ h

theorem endRecovery_onlyStrikes (b : Bell) (h : OnlyStrikes s t) : OnlyStrikes s (endRecovery b t) :=
  examineStrikes_onlyStrikes (modChan_onlyStrikes b _ h)

theorem dampCommand_onlyStrikes (b : Bell) (h : OnlyStrikes s t) : OnlyStrikes s (dampCommand b t) := by
  unfold dampCommand
  dsimp only
  split
  · exact modChan_onlyStrikes b _ h
  · exact h

theorem adoptProfileBell_onlyStrikes (b : Bell) (h : OnlyStrikes s t) : OnlyStrikes s (adoptProfileBell b t) := by
  unfold adoptProfileBell
  split
  · exact judgeThermal_onlyStrikes b (modChan_onlyStrikes b _ h)
  · exact judgeThermal_onlyStrikes b h

end Sys2Proof.Machine
end

section
/-! SUPPORT. The operations that leave the Time Base alone: those of the Schedule Unit and the Library Unit, prefetch, and the show queue's
examinations. Each lemma says that an operation applied at `t` keeps what `t` has kept of `s`. -/

namespace Sys2Proof.Machine

/-- The Time Base and the commands that wait are as before. -/
structure SameTime (s t : State) : Prop where
  tb : t.tb = s.tb
  pending : t.pending = s.pending

variable {s t u : State}

/-! ## What leaves the Time Base alone -/

theorem SameTime.refl (s : State) : SameTime s s := ⟨rfl, rfl⟩

theorem SameTime.same (h : SameTime s t) (htb : u.tb = t.tb) (hp : u.pending = t.pending) : SameTime s u :=
  ⟨htb.trans h.tb, hp.trans h.pending⟩

theorem SameTime.motion (h : SameTime s t) (g : OnlyMotion t u) : SameTime s u := h.same g.tb g.pending

theorem SameTime.strikes (h : SameTime s t) (g : OnlyStrikes t u) : SameTime s u := h.same g.tb g.pending

theorem modSu_sameTime (f : ScheduleUnit → ScheduleUnit) (h : SameTime s t) : SameTime s (t.modSu f) := h.same rfl rfl

theorem forEach_sameTime {α : Type} {f : α → State → State} (hf : ∀ x {t}, SameTime s t → SameTime s (f x t)) (l : List α)
    (h : SameTime s t) : SameTime s (forEach f l t) :=
  forEach_keeps (P := SameTime s) (fun x _ => hf x) l t h

/-! ## The Schedule Unit -/

theorem postRequest_sameTime (r : ShowRequest) (h : SameTime s t) : SameTime s (postRequest r t) := by
  unfold postRequest
  split
  · exact h.same rfl rfl
  · split
    · split
      · exact h.same rfl rfl
      · exact h.same rfl rfl
    · exact h.same rfl rfl

theorem flushQueue_sameTime (h : SameTime s t) : SameTime s (flushQueue t) :=
  (forEach_sameTime (f := fun _ => countSuppressed) (fun _ _ h => h.same rfl rfl) t.su.queue h).same rfl rfl

theorem judgeTrigger_sameTime (k : Nat) (old : Bool) (h : SameTime s t) : SameTime s (judgeTrigger k old t) := by
  unfold judgeTrigger
  split
  · exact h
  · split
    · exact h.same rfl rfl
    · split
      · exact h.same rfl rfl
      · split_ifs
        · exact h.same rfl rfl
        · exact h.same rfl rfl
        · exact postRequest_sameTime _ h

theorem setRecord_sameTime (r : TriggerRecord) (h : SameTime s t) : SameTime s (setRecord r t) := h.same rfl rfl

theorem handleTrigger_sameTime (k : Nat) (h : SameTime s t) : SameTime s (handleTrigger k t) :=
  setRecord_sameTime _ (judgeTrigger_sameTime k false h)

theorem skipPassed_sameTime (c : Option Nat) : ∀ (m k : Nat) {t : State}, SameTime s t → SameTime s (skipPassed c m k t)
  | 0, _, _, h => h
  | m + 1, k, t, h => by
    unfold skipPassed
    refine skipPassed_sameTime c m (k + 1) ?_
    split
    · exact h
    · exact h.same rfl rfl

theorem catchUp_sameTime (before after : Nat) (h : SameTime s t) : SameTime s (catchUp before after t) := by
  have hs := fun c m k => skipPassed_sameTime c m k h
  unfold catchUp
  dsimp only
  split
  · exact h
  · split
    · exact setRecord_sameTime _ (hs _ _ _)
    · exact setRecord_sameTime _ (judgeTrigger_sameTime _ _ (hs _ _ _))

theorem stepBack_sameTime (after : Nat) (h : SameTime s t) : SameTime s (stepBack after t) := by
  unfold stepBack
  split
  · exact h
  · split
    · exact setRecord_sameTime _ h
    · exact h

theorem evaluateSeason_sameTime (h : SameTime s t) : SameTime s (evaluateSeason t) := h.same rfl rfl

theorem scheduleStep_sameTime (before after : Nat) (wasSet : Bool) (src : StepSource) (h : SameTime s t) :
    SameTime s (scheduleStep before after wasSet src t) := by
  have he := evaluateSeason_sameTime h
  unfold scheduleStep
  dsimp only
  split
  · split_ifs
    · exact catchUp_sameTime _ _ he
    · exact stepBack_sameTime _ he
    · exact he
  · split
    · exact setRecord_sameTime _ he
    · exact he

/-! ## The Library Unit -/

theorem useShow_sameTime (r : RecordHeader) (p : List Byte) (h : SameTime s t) : SameTime s (useShow r p t) := by
  unfold useShow
  split_ifs <;> exact h.same rfl rfl

theorem usePoseList_sameTime (r : RecordHeader) (p : List Byte) (h : SameTime s t) : SameTime s (usePoseList r p t) := by
  unfold usePoseList
  split_ifs <;> exact h.same rfl rfl

theorem useInstall_sameTime (r : RecordHeader) (p : List Byte) (h : SameTime s t) : SameTime s (useInstall r p t) := by
  unfold useInstall
  split <;> exact h.same rfl rfl

theorem useSeasons_sameTime (r : RecordHeader) (p : List Byte) (h : SameTime s t) : SameTime s (useSeasons r p t) := by
  unfold useSeasons
  dsimp only
  split_ifs <;> exact h.same rfl rfl

theorem useProgrammes_sameTime (r : RecordHeader) (p : List Byte) (h : SameTime s t) : SameTime s (useProgrammes r p t) := by
  unfold useProgrammes
  dsimp only
  split_ifs <;> exact h.same rfl rfl

theorem useRecord_sameTime (r : RecordHeader) (p : List Byte) (h : SameTime s t) : SameTime s (useRecord r p t) := by
  unfold useRecord
  split
  · exact useInstall_sameTime r p h
  · exact useShow_sameTime r p h
  · exact usePoseList_sameTime r p h
  · exact useSeasons_sameTime r p h
  · exact useProgrammes_sameTime r p h
  · exact h
  · exact h.same rfl rfl

theorem followPointer_sameTime (current next : Nat) (h : SameTime s t) : SameTime s (followPointer current next t).1 := by
  unfold followPointer
  split
  · exact h
  · exact h.same rfl rfl

theorem visitRecord_sameTime (r : RecordHeader) (h : SameTime s t) : SameTime s (visitRecord r t).1 := by
  unfold visitRecord
  dsimp only
  split
  · exact followPointer_sameTime _ _ (h.same rfl rfl)
  · exact h.same rfl rfl

theorem readRecord_sameTime (r : RecordHeader) (got : List Byte) (h : SameTime s t) : SameTime s (readRecord r got t).1 := by
  unfold readRecord
  split_ifs
  · exact h.same rfl rfl
  · exact followPointer_sameTime _ _ (useRecord_sameTime r got h)
  · exact followPointer_sameTime _ _ (h.same rfl rfl)

theorem walkStep_sameTime (ph : WalkPhase) (data : List Byte) (h : SameTime s t) : SameTime s (walkStep ph data t).1 := by
  unfold walkStep
  split
  · split
    · exact h.same rfl rfl
    · exact h.same rfl rfl
  · split
    · exact followPointer_sameTime _ _ h
    · exact h
  · exact visitRecord_sameTime _ h
  · exact readRecord_sameTime _ _ h

theorem modReport_sameTime (f : WalkReport → WalkReport) (h : SameTime s t) : SameTime s (modReport f t) := h.same rfl rfl

theorem loadSeasons_sameTime (p : List Byte) (h : SameTime s t) : SameTime s (loadSeasons p t) := by
  unfold loadSeasons
  exact modReport_sameTime _ (modSu_sameTime _ h)

theorem loadProgrammes_sameTime (p : List Byte) (h : SameTime s t) : SameTime s (loadProgrammes p t) := by
  unfold loadProgrammes
  exact modReport_sameTime _ (modSu_sameTime _ h)

theorem loadTables_sameTime (w : Walk) (h : SameTime s t) : SameTime s (loadTables w t) := by
  unfold loadTables
  refine evaluateSeason_sameTime ?_
  cases w.seasonsBody with
  | none =>
    cases w.programmesBody with
    | none => exact h
    | some q => exact loadProgrammes_sameTime q h
  | some p =>
    cases w.programmesBody with
    | none => exact loadSeasons_sameTime p h
    | some q => exact loadProgrammes_sameTime q (loadSeasons_sameTime p h)

/-! ## Prefetch -/

theorem requestReadsFor_sameTime : ∀ (fuel : Nat) {t : State}, SameTime s t → SameTime s (requestReadsFor fuel t)
  | 0, _, h => h
  | fuel + 1, t, h => by
    unfold requestReadsFor
    split
    · exact h
    · exact requestReadsFor_sameTime fuel (h.same rfl rfl)

theorem grantPort_sameTime (h : SameTime s t) : SameTime s (grantPort t) := h.same rfl rfl

theorem requestReads_sameTime (h : SameTime s t) : SameTime s (requestReads t) := grantPort_sameTime (requestReadsFor_sameTime 16 h)

/-! ## The queue's head and the triggers -/

theorem demandDoors_sameTime (set : AxisSet) (f : DoorRecord → DoorRecord) (h : SameTime s t) : SameTime s (demandDoors set f t) :=
  h.motion (demandDoors_onlyMotion set f (.refl t))

theorem takeRequest_sameTime (r : ShowRequest) (e : DirEntry) (h : SameTime s t) : SameTime s (takeRequest r e t) :=
  demandDoors_sameTime _ _ (requestReads_sameTime (h.same rfl rfl))

theorem examineHeads_sameTime : ∀ (l : List ShowRequest) {t : State}, SameTime s t → SameTime s (examineHeads l t)
  | [], _, h => h.same rfl rfl
  | r :: rest, t, h => by
    unfold examineHeads
    split
    · exact examineHeads_sameTime rest (h.same rfl rfl)
    · split
      · exact examineHeads_sameTime rest (h.same rfl rfl)
      · split_ifs
        · exact examineHeads_sameTime rest (h.same rfl rfl)
        · exact h.same rfl rfl
        · exact takeRequest_sameTime r _ (h.same rfl rfl)

theorem examineQueue_sameTime (h : SameTime s t) : SameTime s (examineQueue t) := by
  unfold examineQueue
  split
  · exact examineHeads_sameTime _ h
  · exact h

theorem examineNewHead_sameTime (before : State) (h : SameTime s t) : SameTime s (examineNewHead before t) := by
  unfold examineNewHead
  split
  · exact h
  · exact examineQueue_sameTime h

theorem nextTriggerHandled_sameTime (h : SameTime s t) : SameTime s (nextTriggerHandled t) := by
  obtain he | ⟨k, -, -, he⟩ := nextTriggerHandled_cases t <;> rw [he]
  · exact h
  · exact examineNewHead_sameTime t (handleTrigger_sameTime k h)

theorem recomputeTrigger_sameTime (h : SameTime s t) : SameTime s (recomputeTrigger t) :=
  recomputeTrigger_keeps (P := SameTime s) (fun _ => nextTriggerHandled_sameTime) h

end Sys2Proof.Machine
end

section
/-! SUPPORT. What the Performance Engine's operations and the steps of the wall clock leave to the passing of time alone (`ClockKept`, R1,
R3). Each lemma says that an operation applied at `t` keeps the clock that `t` has kept. -/

namespace Sys2Proof.Machine

variable {n : Nat} {s t u : State}

/-! ## What keeps the clock -/

/-- What leaves the Time Base and the waiting commands alone keeps the clock. -/
theorem ClockKept.same (h : ClockKept n s t) (htb : u.tb = t.tb) (hp : u.pending = t.pending) : ClockKept n s u :=
  h.trans (.of_eq htb hp)

theorem ClockKept.sameTime (h : ClockKept n s t) (g : SameTime t u) : ClockKept n s u := h.same g.tb g.pending

theorem ClockKept.motion (h : ClockKept n s t) (g : OnlyMotion t u) : ClockKept n s u := h.same g.tb g.pending

theorem ClockKept.strikes (h : ClockKept n s t) (g : OnlyStrikes t u) : ClockKept n s u := h.same g.tb g.pending

/-- A change of the Time Base beside its counter that does not clear the time-set flag. -/
theorem ClockKept.modTb (h : ClockKept n s t) {f : TimeBase → TimeBase} (hc : (f t.tb).counter = t.tb.counter)
    (hs : t.tb.timeSet = true → (f t.tb).timeSet = true) : ClockKept n s (t.modTb f) :=
  ClockKept.trans (n := 0) h ⟨hc, hs, rfl⟩

theorem ClockKept.modSynth (h : ClockKept n s t) (f : Synth → Synth) : ClockKept n s (t.modSynth f) := h.modTb rfl id

theorem ite_clock {p : Prop} [Decidable p] {u v : State} (hu : ClockKept n s u) (hv : ClockKept n s v) :
    ClockKept n s (if p then u else v) := by
  split
  · exact hu
  · exact hv

/-- An update for each member of a list keeps the clock that each update keeps. -/
theorem forEach_clock {α : Type} {f : α → State → State} (hf : ∀ x {t}, ClockKept n s t → ClockKept n s (f x t)) (l : List α)
    (h : ClockKept n s t) : ClockKept n s (forEach f l t) :=
  forEach_keeps (P := ClockKept n s) (fun x _ => hf x) l t h

theorem modSu_clock (f : ScheduleUnit → ScheduleUnit) (h : ClockKept n s t) : ClockKept n s (t.modSu f) := h.same rfl rfl
theorem modLu_clock (f : LibraryUnit → LibraryUnit) (h : ClockKept n s t) : ClockKept n s (t.modLu f) := h.same rfl rfl
theorem modPe_clock (f : PerformanceEngine → PerformanceEngine) (h : ClockKept n s t) : ClockKept n s (t.modPe f) := h.same rfl rfl
theorem modSt_clock (f : StrikeUnit → StrikeUnit) (h : ClockKept n s t) : ClockKept n s (t.modSt f) := h.same rfl rfl
theorem modSv_clock (f : SupervisionUnit → SupervisionUnit) (h : ClockKept n s t) : ClockKept n s (t.modSv f) := h.same rfl rfl
theorem modLp_clock (f : LinkPort → LinkPort) (h : ClockKept n s t) : ClockKept n s (t.modLp f) := h.same rfl rfl
theorem modPins_clock (f : Pins → Pins) (h : ClockKept n s t) : ClockKept n s (t.modPins f) := h.same rfl rfl
theorem modChan_clock (b : Bell) (f : Channel → Channel) (h : ClockKept n s t) : ClockKept n s (t.modChan b f) := h.same rfl rfl
theorem modAxis_clock (a : Axis) (f : AxisRecord → AxisRecord) (h : ClockKept n s t) : ClockKept n s (t.modAxis a f) := h.same rfl rfl
theorem modDoor_clock (d : Axis) (f : DoorRecord → DoorRecord) (h : ClockKept n s t) : ClockKept n s (t.modDoor d f) := h.same rfl rfl
theorem raise_clock (k : Kind) (h : ClockKept n s t) : ClockKept n s (raise k t) := h.same rfl rfl
theorem setLevel_clock (v : Level) (on : Bool) (h : ClockKept n s t) : ClockKept n s (setLevel v on t) := h.same rfl rfl

theorem modPerf_clock (f : Performance → Performance) (h : ClockKept n s t) : ClockKept n s (modPerf f t) := h.same rfl rfl

/-! ## Operations that leave the Time Base alone -/

theorem flushQueue_clock (h : ClockKept n s t) : ClockKept n s (flushQueue t) :=
  h.sameTime (flushQueue_sameTime (.refl t))

theorem setRecord_clock (r : TriggerRecord) (h : ClockKept n s t) : ClockKept n s (setRecord r t) :=
  h.sameTime (setRecord_sameTime r (.refl t))

theorem evaluateSeason_clock (h : ClockKept n s t) : ClockKept n s (evaluateSeason t) :=
  h.sameTime (evaluateSeason_sameTime (.refl t))

theorem loadTables_clock (w : Walk) (h : ClockKept n s t) : ClockKept n s (loadTables w t) :=
  h.sameTime (loadTables_sameTime w (.refl t))

theorem grantPort_clock (h : ClockKept n s t) : ClockKept n s (grantPort t) :=
  h.sameTime (grantPort_sameTime (.refl t))

theorem requestReads_clock (h : ClockKept n s t) : ClockKept n s (requestReads t) :=
  h.sameTime (requestReads_sameTime (.refl t))

theorem examineQueue_clock (h : ClockKept n s t) : ClockKept n s (examineQueue t) :=
  h.sameTime (examineQueue_sameTime (.refl t))

theorem examineNewHead_clock (before : State) (h : ClockKept n s t) : ClockKept n s (examineNewHead before t) :=
  h.sameTime (examineNewHead_sameTime before (.refl t))

theorem nextTriggerHandled_clock (h : ClockKept n s t) : ClockKept n s (nextTriggerHandled t) :=
  h.sameTime (nextTriggerHandled_sameTime (.refl t))

theorem recomputeTrigger_clock (h : ClockKept n s t) : ClockKept n s (recomputeTrigger t) :=
  h.sameTime (recomputeTrigger_sameTime (.refl t))

theorem walkStep_clock (ph : WalkPhase) (data : List Byte) (h : ClockKept n s t) : ClockKept n s (walkStep ph data t).1 :=
  h.sameTime (walkStep_sameTime ph data (.refl t))

theorem scheduleStep_clock (before after : Nat) (wasSet : Bool) (src : StepSource) (h : ClockKept n s t) :
    ClockKept n s (scheduleStep before after wasSet src t) := h.sameTime (scheduleStep_sameTime before after wasSet src (.refl t))

/-! ## Steps of the wall clock -/

/-- A step sets the wall clock alone, and may set the time-set flag (R10). -/
theorem applyStep_clock (delta : Int) (src : StepSource) (h : ClockKept n s t) : ClockKept n s (applyStep delta src t) := by
  have h1 : ClockKept n s (t.modTb (·.stepBy delta src)) := h.modTb rfl fun hs => by simp [TimeBase.stepBy, hs]
  exact scheduleStep_clock _ _ _ _ (h1.same rfl rfl)

theorem applyPending_clock (h : ClockKept n s t) : ClockKept n s (applyPending t) := by
  unfold applyPending
  split
  · exact h
  · exact applyStep_clock _ _ (h.modTb rfl id)

/-! ## The Performance Engine: the score -/

theorem strikeEvent_clock (bell velocity : Nat) (h : ClockKept n s t) : ClockKept n s (strikeEvent bell velocity t) := by
  unfold strikeEvent
  split
  · exact h
  · split
    · exact h.same rfl rfl
    · split
      · exact h.strikes (strikeArrives_onlyStrikes _ (.refl t))
      · exact h.same rfl rfl

theorem dampEvent_clock (bell : Nat) (h : ClockKept n s t) : ClockKept n s (dampEvent bell t) := by
  unfold dampEvent
  split
  · exact h.same rfl rfl
  · split
    · exact h.strikes (dampCommand_onlyStrikes _ (.refl t))
    · exact h.same rfl rfl

theorem cueEvent_clock (axis : Nat) (isList : Bool) (number : Nat) (h : ClockKept n s t) :
    ClockKept n s (cueEvent axis isList number t) := by
  unfold cueEvent
  split
  · exact h
  · split
    · exact h.same rfl rfl
    · split
      · exact h.same rfl rfl
      · refine h.motion (settleMotion_onlyMotion ?_)
        split
        · split
          · exact startList_onlyMotion _ _ _ (.refl t)
          · exact .refl t
        · exact give_onlyMotion _ _ (.refl t)

theorem waitEvent_clock (axis seconds : Nat) (h : ClockKept n s t) : ClockKept n s (waitEvent axis seconds t) := by
  unfold waitEvent
  split
  · exact h
  · split_ifs
    · exact h
    · exact h.same rfl rfl
    · exact h.same rfl rfl

theorem demandDoors_clock (set : AxisSet) (f : DoorRecord → DoorRecord) (h : ClockKept n s t) :
    ClockKept n s (demandDoors set f t) := h.motion (demandDoors_onlyMotion set f (.refl t))

theorem enterCoda_clock (r : PerfResult) (h : ClockKept n s t) : ClockKept n s (enterCoda r t) := by
  unfold enterCoda
  refine demandDoors_clock _ _ (forEach_clock (fun a t h => ?_) allAxes
    (modPerf_clock _ (modPe_clock _ (h.modSynth Synth.stop))))
  split
  · exact h.motion (sendHomeAfterStep_onlyMotion a (.refl t))
  · exact h

theorem abandonRetention_clock (h : ClockKept n s t) : ClockKept n s (abandonRetention t) := by
  unfold abandonRetention
  split
  · exact h
  · split
    · exact h.same rfl rfl
    · exact h

/-- The end of an event that is no loop mark (R66, R73). -/
theorem passed_clock (i : Nat) (h : ClockKept n s t) : ClockKept n s (abandonRetention (passEvent i t)) :=
  abandonRetention_clock (h.same rfl rfl)

theorem countEnd_clock (l : LoopRecord) (h : ClockKept n s t) : ClockKept n s (countEnd l t) := by
  unfold countEnd
  dsimp only
  split_ifs <;> exact h.same rfl rfl

theorem carryOut_clock (i : Nat) (ev : Event) (h : ClockKept n s t) (hc : carryOut i ev t = some u) : ClockKept n s u := by
  unfold carryOut at hc
  split at hc
  case h_1 => cases hc; exact passed_clock i (strikeEvent_clock _ _ h)
  case h_2 => cases hc; exact passed_clock i (dampEvent_clock _ h)
  case h_3 =>
    split at hc
    · cases hc
    · cases hc; exact passed_clock i ((h.modSynth _).same rfl rfl)
  case h_4 =>
    split at hc
    · cases hc
    · cases hc; exact passed_clock i ((h.modSynth _).same rfl rfl)
  case h_5 => cases hc; exact passed_clock i (cueEvent_clock _ _ _ h)
  case h_6 => cases hc; exact passed_clock i (waitEvent_clock _ _ h)
  case h_7 =>
    split at hc
    · cases hc
    · cases hc; exact h.same rfl rfl
  case h_8 =>
    split at hc
    · cases hc
    · cases hc; exact countEnd_clock _ (h.same rfl rfl)
  case h_9 => cases hc; exact passed_clock i (h.same rfl rfl)
  case h_10 =>
    split at hc
    · cases hc
    · cases hc; exact enterCoda_clock _ (h.same rfl rfl)
  case h_11 => cases hc

theorem scoreError_clock (h : ClockKept n s t) : ClockKept n s (scoreError t) := enterCoda_clock _ (h.same rfl rfl)

theorem runEventsFor_clock : ∀ (fuel : Nat) {t : State}, ClockKept n s t → ClockKept n s (runEventsFor fuel t)
  | 0, _, h => h
  | fuel + 1, t, h => by
    unfold runEventsFor
    split
    · split
      · split
        · exact scoreError_clock h
        · exact enterCoda_clock _ h
      · split
        · exact h.same rfl rfl
        · split
          · exact h.modSynth _
          · split
            · exact scoreError_clock h
            · next hc =>
              have hu := carryOut_clock _ _ h hc
              refine runEventsFor_clock fuel ?_
              split
              · exact requestReads_clock hu
              · exact hu
    · exact h

theorem runEvents_clock (h : ClockKept n s t) : ClockKept n s (runEvents t) := runEventsFor_clock 4096 h

theorem releaseHold_clock (h : ClockKept n s t) : ClockKept n s (releaseHold t) :=
  runEvents_clock ((modPe_clock (fun e => { e with hold := .none }) h).modSynth _)

theorem exclude_clock (x : AxisSet) (h : ClockKept n s t) : ClockKept n s (exclude x t) := modPerf_clock _ h

theorem startPlaying_clock (h : ClockKept n s t) : ClockKept n s (startPlaying t) := by
  unfold startPlaying
  have h1 := fun x f => modPerf_clock f (exclude_clock x h)
  exact runEvents_clock (modPerf_clock _ ((raise_clock _ (modPe_clock _ (h1 _ _))).modSynth _))

/-! ## The ends of a performance and of a self-test, and steps -/

theorem writeLog_clock (h : ClockKept n s t) : ClockKept n s (writeLog t) := by
  unfold writeLog
  split
  · exact h
  · exact h.same rfl rfl

theorem autoTransfer_clock (h : ClockKept n s t) : ClockKept n s (autoTransfer t) := by
  unfold autoTransfer
  split
  · exact h.same rfl rfl
  · exact h

theorem enterIdle_clock (h : ClockKept n s t) : ClockKept n s (enterIdle t) := by
  unfold enterIdle
  have h1 := fun f => autoTransfer_clock (raise_clock .showEnded (writeLog_clock (modPerf_clock f h)))
  exact examineQueue_clock (applyPending_clock (modLu_clock _ (modPe_clock _ ((h1 _).modSynth Synth.stop))))

theorem abortToIdle_clock (r : PerfResult) (owe : Bool) (h : ClockKept n s t) : ClockKept n s (abortToIdle r owe t) :=
  enterIdle_clock (modPe_clock _ (demandDoors_clock _ _ (modPerf_clock _ h)))

theorem abortToCoda_clock (r : PerfResult) (h : ClockKept n s t) : ClockKept n s (abortToCoda r t) := by
  unfold abortToCoda
  split
  iterate 2 exact enterCoda_clock r h
  all_goals exact h

theorem handOver_clock (b : Bell) (rest : List Bell) (h : ClockKept n s t) : ClockKept n s (handOver b rest t) :=
  have h1 : ClockKept n s (modSelfTest _ t) := h.same rfl rfl
  h1.strikes (strikeArrives_onlyStrikes _ (.refl _))

theorem stopSelfTest_clock (c : TestCause) (h : ClockKept n s t) : ClockKept n s (stopSelfTest c t) := by
  unfold stopSelfTest
  split
  · exact h.same rfl rfl
  · exact h

theorem endSelfTest_clock (h : ClockKept n s t) : ClockKept n s (endSelfTest t) :=
  examineQueue_clock (applyPending_clock (h.same rfl rfl))

theorem offerStep_clock (delta : Int) (src : StepSource) (h : ClockKept n s t) : ClockKept n s (offerStep delta src t) := by
  unfold offerStep
  split
  iterate 2 exact examineQueue_clock (applyStep_clock delta src (h.modTb rfl id))
  all_goals exact (h.modTb (f := fun x => { x with pendingStep := some ⟨delta, src⟩ }) rfl id).same rfl rfl

end Sys2Proof.Machine
end

section
/-! SUPPORT. What the operations of the Supervision Unit and the effects of the commands leave to the passing of time alone
(`ClockKept`, R1, R3), in the order of their files. -/

namespace Sys2Proof.Machine

variable {n : Nat} {s t : State}

/-! ## The mute reason set and the monitors -/

theorem haltTower_clock (h : ClockKept n s t) : ClockKept n s (haltTower t) := by
  refine forEach_clock (fun d t h => h.motion (haltDoor_onlyMotion d (.refl t))) allAxes ?_
  refine forEach_clock (f := fun a s => s.modAxis a (·.halt)) (fun a t h => h.motion (.modAxis a _ t)) allAxes ?_
  exact forEach_clock (fun b t h => h.strikes (haltDamper_onlyStrikes b (.refl t))) allBells h

theorem reasonToEngine_clock (r : MuteReason) (h : ClockKept n s t) : ClockKept n s (reasonToEngine r t) := by
  unfold reasonToEngine
  split
  · split
    iterate 2 exact h.same rfl rfl
    all_goals exact h
  · split
    · exact abortToIdle_clock _ _ h
    · exact h
  all_goals exact h

theorem addReasonWith_clock (first : Bool) (r : MuteReason) (h : ClockKept n s t) : ClockKept n s (addReasonWith first r t) :=
  addReasonWith_keeps (P := ClockKept n s) r (fun _ => modSv_clock _)
    (fun t h => stopSelfTest_clock _ (h.strikes (flushStrikes_onlyStrikes (.refl t))))
    (fun _ b t _ h => h.strikes (enterRecovery_onlyStrikes b (cutPulse_onlyStrikes b _ (.refl t))))
    (fun _ _ => haltTower_clock) (fun _ => reasonToEngine_clock r) h

theorem addReason_clock (r : MuteReason) (h : ClockKept n s t) : ClockKept n s (addReason r t) := addReasonWith_clock true r h

theorem removeReason_clock (r : MuteReason) (h : ClockKept n s t) : ClockKept n s (removeReason r t) := by
  cases r <;> exact h.same rfl rfl

theorem putReason_clock (r : MuteReason) (v : Bool) (h : ClockKept n s t) : ClockKept n s (putReason r v t) := by
  unfold putReason
  split
  · exact addReason_clock r h
  · exact removeReason_clock r h

theorem showSupply_clock (st : SupplyState) (h : ClockKept n s t) : ClockKept n s (showSupply st t) := h.same rfl rfl

theorem judgeSupply_clock (vm : Nat) (h : ClockKept n s t) : ClockKept n s (judgeSupply vm t) := by
  unfold judgeSupply
  split
  · exact h
  · exact putReason_clock _ _ (showSupply_clock _ h)

theorem takeSample_clock (x : Nat) (h : ClockKept n s t) : ClockKept n s (takeSample x t) := by
  unfold takeSample
  dsimp only
  split
  · exact modSv_clock _ h
  · exact judgeSupply_clock _ (modSv_clock _ h)

theorem takeDieReading_clock (c : Int) (h : ClockKept n s t) : ClockKept n s (takeDieReading c t) := by
  unfold takeDieReading setDie
  exact putReason_clock _ _ (setLevel_clock _ _ (setLevel_clock _ _ (modSv_clock _ (modSv_clock _ h))))

theorem reportCodes_clock (h : ClockKept n s t) : ClockKept n s (reportCodes t) := h.same rfl rfl

theorem endBlocks_clock (h : ClockKept n s t) : ClockKept n s (endBlocks t) := by
  have h1 := fun f => reportCodes_clock (modSv_clock f h)
  unfold endBlocks
  dsimp only
  split
  · exact h1 _
  · split_ifs
    · exact removeReason_clock _ (h1 _)
    · exact addReason_clock _ (h1 _)
    · exact h1 _

/-! ## The presentation state -/

theorem enterPresentation_clock (p : Presentation) (h : ClockKept n s t) : ClockKept n s (enterPresentation p t) := by
  have h1 : ClockKept n s (setPresentation p t) := modSv_clock _ h
  unfold enterPresentation
  split
  iterate 2 exact examineQueue_clock h1
  all_goals exact flushQueue_clock h1

theorem owePark_clock (v : Bool) (h : ClockKept n s t) : ClockKept n s (owePark v t) := modSv_clock _ h

theorem setLamp_clock (l : Lamp) (h : ClockKept n s t) : ClockKept n s (setLamp l t) := modSv_clock _ h

/-- The lamp's and the notice's part of a service transition. -/
theorem serviceState_clock (l : Lamp) (h : ClockKept n s t) : ClockKept n s (raise .serviceState (setLamp l t)) :=
  raise_clock _ (setLamp_clock l h)

theorem modAxes_clock (f : AxisRecord → AxisRecord) (l : List Axis) (h : ClockKept n s t) :
    ClockKept n s (forEach (fun a s => s.modAxis a f) l t) :=
  forEach_clock (fun a t h => h.motion (.modAxis a f t)) l h

theorem modFigures_clock (f : AxisRecord → AxisRecord) (h : ClockKept n s t) :
    ClockKept n s (forFigures (fun a s => s.modAxis a f) t) :=
  forFigures_keeps (P := ClockKept n s) (fun a t _ h => h.motion (.modAxis a f t)) h

theorem becomeLocked_clock (h : ClockKept n s t) : ClockKept n s (becomeLocked t) := by
  have h1 : ClockKept n s (forEach readDoor allAxes (forEach syncMembers allAxes (forEach (fun a s => s.modAxis a (·.lock)) allAxes t))) :=
    forEach_clock (fun d t h => h.motion (.modDoor d _ t)) _
      (forEach_clock (fun d t h => h.motion (syncMembers_onlyMotion d (.refl t))) _ (modAxes_clock _ _ h))
  unfold becomeLocked
  dsimp only
  split
  iterate 3 exact enterPresentation_clock _ (owePark_clock _ h1)
  all_goals exact owePark_clock _ h1

/-! ## The end of a walk and of a store operation -/

theorem adoptBells_clock (h : ClockKept n s t) : ClockKept n s (adoptBells t) :=
  h.strikes (reportWarm_onlyStrikes (forEach_onlyStrikes (fun b _ => adoptProfileBell_onlyStrikes b) allBells (.refl t)))

theorem dropAbsent_clock (h : ClockKept n s t) : ClockKept n s (dropAbsent t) := by
  refine forEach_clock (fun a t h => ?_) allAxes h
  split
  · exact h
  · exact h.motion (.modAxis a _ t)

theorem examineStrikes_clock (h : ClockKept n s t) : ClockKept n s (examineStrikes t) :=
  h.strikes (examineStrikes_onlyStrikes (.refl t))

theorem makeReady_clock (h : ClockKept n s t) : ClockKept n s (makeReady t) := by
  have h1 : ClockKept n s (demandDoors (BitVec.allOnes 8) DoorRecord.park (forFigures requestHome (raise .directoryReady t))) :=
    demandDoors_clock _ _ (forFigures_keeps (P := ClockKept n s) (fun a t _ h => h.motion (requestHome_onlyMotion a (.refl t)))
      (raise_clock _ h))
  unfold makeReady
  refine examineStrikes_clock ?_
  split
  · exact enterPresentation_clock _ h1
  · exact h1

theorem lockOutSupply_clock (h : ClockKept n s t) : ClockKept n s (lockOutSupply t) :=
  addReasonWith_clock _ _ (showSupply_clock _ h)

theorem dropStrikes_clock (r : DropReason) (h : ClockKept n s t) : ClockKept n s (dropStrikes r t) :=
  h.strikes (dropStrikes_onlyStrikes r (.refl t))

theorem holdResult_clock (o : StoreOp) (out : StoreOutcome) (data : List Byte) (h : ClockKept n s t) :
    ClockKept n s (holdResult o out data t) := h.same rfl rfl

theorem endWalk_clock (r : WalkReason) (h : ClockKept n s t) : ClockKept n s (endWalk r t) := by
  unfold endWalk
  split
  · exact h
  · next w _ =>
    have h1 := fun f => adoptBells_clock (dropAbsent_clock (modLu_clock f h))
    have h2 := fun f => ite_clock (p := walkOutcome r w.install t.lu.report.badCrc = .absent)
      (lockOutSupply_clock (dropStrikes_clock .channelFault (h1 f))) (h1 f)
    have h3 := fun f => recomputeTrigger_clock (loadTables_clock w (h2 f))
    have h4 := fun f => ite_clock (p := walkOutcome r w.install t.lu.report.badCrc = .absent) (h3 f) (makeReady_clock (h3 f))
    dsimp only
    split
    · exact ite_clock (holdResult_clock _ _ _ (h4 _)) (h4 _)
    · exact h4 _

theorem dropDirectory_clock (h : ClockKept n s t) : ClockKept n s (dropDirectory t) := becomeLocked_clock (h.same rfl rfl)

theorem endStoreOp_clock (o : StoreOp) (out : StoreOutcome) (data : List Byte) (h : ClockKept n s t) :
    ClockKept n s (endStoreOp o out data t) := by
  unfold endStoreOp
  split
  · exact holdResult_clock o out data h
  · refine recomputeTrigger_clock (holdResult_clock o out data ?_)
    split
    · exact dropDirectory_clock h
    · exact h.same rfl rfl

theorem storeStep_clock (o : StoreOp) (data : List Byte) (h : ClockKept n s t) : ClockKept n s (storeStep o data t) := by
  unfold storeStep
  split
  · split
    · exact h.same rfl rfl
    · exact h.same rfl rfl
  · exact endStoreOp_clock o _ _ h
  · exact h.same rfl rfl
  · exact h.same rfl rfl
  · split
    · exact h.same rfl rfl
    · exact endStoreOp_clock o _ _ h
  · exact h

/-! ## Service -/

theorem enterServicePending_clock (h : ClockKept n s t) : ClockKept n s (enterServicePending t) := by
  unfold enterServicePending
  exact serviceState_clock _ (owePark_clock _ (stopSelfTest_clock _ (abortToCoda_clock _ (enterPresentation_clock _ h))))

theorem leaveService_clock (h : ClockKept n s t) : ClockKept n s (leaveService t) := by
  have h1 := modFigures_clock (·.leaveService) (removeReason_clock .service h)
  unfold leaveService
  refine enterPresentation_clock _ (serviceState_clock _ (forEach_clock (fun d t h => ?_) allAxes h1))
  split
  · exact h.motion (modDoor_onlyMotion d _ (.modDoor d _ t))
  · exact h

theorem cancelService_clock (h : ClockKept n s t) : ClockKept n s (cancelService t) :=
  enterPresentation_clock _ (serviceState_clock _ (owePark_clock _ h))

theorem press_clock (h : ClockKept n s t) : ClockKept n s (press t) := by
  unfold press
  split
  iterate 3 exact enterServicePending_clock h
  iterate 2 exact cancelService_clock h
  · split
    · exact h
    · exact leaveService_clock h
  · exact h

theorem earlyHatch_clock (h : ClockKept n s t) : ClockKept n s (earlyHatch t) := by
  have h1 := addReason_clock .service (owePark_clock false (enterPresentation_clock .service h))
  unfold earlyHatch
  exact serviceState_clock _ (modFigures_clock _ (modPe_clock _ (ite_clock (abortToIdle_clock _ _ h1) h1)))

theorem openHatch_clock (h : ClockKept n s t) : ClockKept n s (openHatch t) := by
  have h1 := modSv_clock (fun u => { u with hatchOpen := true }) h
  unfold openHatch
  dsimp only
  split
  · exact serviceState_clock _ (addReason_clock _ (enterPresentation_clock _ h1))
  · exact h1
  all_goals exact earlyHatch_clock h1

/-! ## What follows at once -/

theorem motionPass_clock (h : ClockKept n s t) : ClockKept n s (motionPass t) := h.motion (motionPass_onlyMotion (.refl t))

theorem park_clock (h : ClockKept n s t) : ClockKept n s (park t) := h.motion (park_onlyMotion (.refl t))

theorem immediate_clock (i : Immediate) (h : ClockKept n s t) : ClockKept n s (i.act t) := by
  unfold Immediate.act
  cases i with
  | motion => exact motionPass_clock h
  | exclusion => exact exclude_clock _ h
  | start => exact startPlaying_clock h
  | release => exact releaseHold_clock h
  | coda => exact enterIdle_clock h
  | selfTest => exact endSelfTest_clock h
  | recoveryPark => exact park_clock (modPe_clock _ h)
  | presentationPark => exact park_clock (owePark_clock false h)
  | serviceReady => exact serviceState_clock _ (enterPresentation_clock _ h)

end Sys2Proof.Machine
end

section
/-! SUPPORT. What the answers of the requests and the effects of the events leave to the passing of time alone (`ClockKept`, R1, R3),
block by block in the order of the files named …Effects. -/

namespace Sys2Proof.Machine

variable {n : Nat} {s t : State}

/-! ## The Link Port -/

theorem receive_clock (r : Request) (h : ClockKept n s t) : ClockKept n s (receive r t) :=
  receive_keeps (P := ClockKept n s) (fun f _ => modLp_clock f) r h

theorem rxHunt_clock (h : ClockKept n s t) : ClockKept n s (rxHunt t) := modLp_clock _ h

theorem linkError_clock (h : ClockKept n s t) : ClockKept n s (linkError t) := h.same rfl rfl

theorem frameReceived_clock (h : ClockKept n s t) : ClockKept n s (frameReceived t) := by
  unfold frameReceived
  split
  · exact h
  · exact ite_clock (receive_clock _ (rxHunt_clock h)) h

theorem badFrame_clock (framing : Bool) (h : ClockKept n s t) : ClockKept n s (badFrame framing t) := by
  unfold badFrame
  split
  · exact h
  · exact ite_clock (linkError_clock (rxHunt_clock h)) h

theorem frameGap_clock (h : ClockKept n s t) : ClockKept n s (frameGap t) := by
  unfold frameGap
  split
  · exact h
  · exact ite_clock (linkError_clock (rxHunt_clock h)) h

theorem byteReceived_clock (b : Byte) (h : ClockKept n s t) : ClockKept n s (byteReceived b t) := by
  unfold byteReceived
  split
  · exact ite_clock (modLp_clock _ h) h
  · exact modLp_clock _ h

/-- The Time Base over a soft reset, with and without a pending step (R13). -/
theorem timeBase_softReset_none {b : TimeBase} (h : b.pendingStep = none) :
    b.softReset = { b with pendingStep := none, synth := Synth.reset } := by
  simp [TimeBase.softReset, h]

theorem timeBase_softReset_some {b : TimeBase} {p : PendingStep} (h : b.pendingStep = some p) :
    b.softReset = { b.stepBy p.delta p.source with pendingStep := none, synth := Synth.reset } := by
  simp [TimeBase.softReset, h]

/-- The Time Base's part of a soft reset keeps the counter, and sets the time-set flag or leaves it (R13). -/
theorem timeBase_softReset_keeps (b : TimeBase) :
    b.softReset.counter = b.counter ∧ (b.timeSet = true → b.softReset.timeSet = true) := by
  cases h : b.pendingStep with
  | none => rw [timeBase_softReset_none h]; exact ⟨rfl, id⟩
  | some p => rw [timeBase_softReset_some h]; exact ⟨rfl, fun hs => by simp [TimeBase.stepBy, hs]⟩

theorem softReset_clock (h : ClockKept n s t) : ClockKept n s (softReset t) := by
  obtain ⟨hc, hs⟩ := timeBase_softReset_keeps t.tb
  unfold softReset
  exact ite_clock (h.trans (n := 0) ⟨hc, hs, rfl⟩) (h.trans (n := 0) ⟨hc, hs, rfl⟩)

theorem transmitEnd_clock (h : ClockKept n s t) : ClockKept n s (transmitEnd t) :=
  ite_clock (softReset_clock h) (modLp_clock _ h)

/-! ## The Motion Unit -/

theorem give_clock (g : Target) (a : Axis) (h : ClockKept n s t) : ClockKept n s (give g a t) := h.motion (give_onlyMotion g a (.refl t))

theorem countAxis_clock (a : Axis) (h : ClockKept n s t) : ClockKept n s (countAxis a t) := h.motion (countAxis_onlyMotion a (.refl t))

theorem endHoming_clock (a : Axis) (h : ClockKept n s t) : ClockKept n s (endHoming a t) := h.motion (endHoming_onlyMotion a (.refl t))

theorem judgeLimit_clock (a : Axis) (h : ClockKept n s t) : ClockKept n s (judgeLimit a t) := h.motion (judgeLimit_onlyMotion a (.refl t))

theorem axisFault_clock (k : AxisFaultKind) (a : Axis) (h : ClockKept n s t) : ClockKept n s (axisFault k a t) :=
  h.motion (axisFault_onlyMotion k a (.refl t))

theorem enterOpen_clock (d : Axis) (h : ClockKept n s t) : ClockKept n s (enterOpen d t) := h.motion (enterOpen_onlyMotion d (.refl t))

theorem doorFault_clock (k : DoorFaultKind) (trip : Option Nat) (d : Axis) (h : ClockKept n s t) : ClockKept n s (doorFault k trip d t) :=
  h.motion (doorFault_onlyMotion k trip d (.refl t))

theorem moveAxis_clock (p : List Byte) (h : ClockKept n s t) : ClockKept n s (moveAxis p t).state := by
  unfold moveAxis
  dsimp only
  split
  · exact h
  split
  · exact h
  split
  · exact h
  split
  · exact h
  split
  · split
    · exact h
    · exact demandDoors_clock _ _ h
  split
  · exact h
  split
  · exact h
  · exact give_clock _ _ h

theorem homeAxis_clock (p : List Byte) (h : ClockKept n s t) : ClockKept n s (homeAxis p t).state := by
  unfold homeAxis
  split
  · exact h
  split
  · exact h
  split
  · exact h
  split_ifs
  · exact h
  · exact h
  · exact h
  · exact h.motion (requestHome_onlyMotion _ (.refl t))

theorem clearBell_clock (i : Nat) (h : ClockKept n s t) : ClockKept n s (clearBell i t).state := by
  unfold clearBell
  split
  · exact h
  split
  · exact h
  · next b _ _ =>
    have h1 : ClockKept n s (t.modChan b Channel.clearFault) := h.strikes (.modChan b _ t)
    exact ite_clock (examineStrikes_clock h1) h1

theorem clearAxis_clock (i : Nat) (h : ClockKept n s t) : ClockKept n s (clearAxis i t).state := by
  unfold clearAxis
  split
  · exact h
  split
  · exact modDoor_clock _ _ h
  split
  · exact modAxis_clock _ _ h
  · exact h

theorem clearFault_clock (p : List Byte) (h : ClockKept n s t) : ClockKept n s (clearFault p t).state := by
  unfold clearFault
  split
  · exact clearBell_clock _ h
  · exact clearAxis_clock _ h
  · exact h

theorem getAxis_clock (p : List Byte) (h : ClockKept n s t) : ClockKept n s (getAxis p t).state := by
  unfold getAxis
  split <;> exact h

theorem getDoor_clock (p : List Byte) (h : ClockKept n s t) : ClockKept n s (getDoor p t).state := by
  unfold getDoor
  split <;> exact h

theorem reversalEnd_clock (a : Axis) (h : ClockKept n s t) : ClockKept n s (reversalEnd a t) := modDoor_clock a _ (modAxis_clock a _ h)

theorem dwellOver_clock (a : Axis) (h : ClockKept n s t) : ClockKept n s (dwellOver a t) :=
  ite_clock (h.motion (dwellNext_onlyMotion a listFuel (.refl t))) h

theorem doorArriveClosed_clock (d : Axis) (h : ClockKept n s t) : ClockKept n s (doorArriveClosed d t) :=
  ite_clock (modDoor_clock d _ (modDoor_clock d _ h)) h

theorem doorOpenSwitch_clock (d : Axis) (active : Bool) (h : ClockKept n s t) : ClockKept n s (doorOpenSwitch d active t) := by
  unfold doorOpenSwitch
  split
  · exact enterOpen_clock d (modDoor_clock d _ h)
  · exact modDoor_clock d _ h
  · exact modDoor_clock d _ h
  all_goals exact h

theorem homeSwitchChange_clock (a : Axis) (active : Bool) (h : ClockKept n s t) : ClockKept n s (homeSwitchChange a active t) := by
  have h1 := fun f => modPins_clock f h
  unfold homeSwitchChange
  exact ite_clock (h1 _) (ite_clock (doorArriveClosed_clock a (h1 _)) (ite_clock (endHoming_clock a (h1 _)) (h1 _)))

theorem farSwitchChange_clock (a : Axis) (active : Bool) (h : ClockKept n s t) : ClockKept n s (farSwitchChange a active t) := by
  have h1 := fun f => modPins_clock f h
  unfold farSwitchChange
  exact doorOpenSwitch_clock a active (ite_clock (judgeLimit_clock a (h1 _)) (h1 _))

theorem doorSwitchChange_clock (d : Axis) (sw : DoorSwitch) (active : Bool) (h : ClockKept n s t) :
    ClockKept n s (doorSwitchChange d sw active t) := by
  unfold doorSwitchChange
  split
  · exact farSwitchChange_clock d active h
  · exact homeSwitchChange_clock d active h

theorem alimChange_clock (a : Axis) (active : Bool) (h : ClockKept n s t) : ClockKept n s (alimChange a active t) := by
  unfold alimChange
  exact modDoor_clock a _ (modAxis_clock a _ (modPins_clock _ h))

theorem axisOvercurrent_clock (a : Axis) (h : ClockKept n s t) : ClockKept n s (axisOvercurrent a t) :=
  ite_clock (axisFault_clock _ a h) h

theorem doorOvercurrent_clock (d : Axis) (h : ClockKept n s t) : ClockKept n s (doorOvercurrent d t) :=
  ite_clock (h.motion (doorOverCurrent_onlyMotion d (.refl t))) h

theorem axisStall_clock (a : Axis) (h : ClockKept n s t) : ClockKept n s (axisStall a t) := ite_clock (axisFault_clock _ a h) h

theorem travelTimeout_clock (a : Axis) (h : ClockKept n s t) : ClockKept n s (travelTimeout a t) := ite_clock (axisFault_clock _ a h) h

theorem axisOffTimeEnd_clock (a : Axis) (h : ClockKept n s t) : ClockKept n s (axisOffTimeEnd a t) := ite_clock (modAxis_clock a _ h) h

theorem doorTimeout_clock (d : Axis) (h : ClockKept n s t) : ClockKept n s (doorTimeout d t) :=
  ite_clock (modDoor_clock d _ (doorFault_clock _ _ d h)) h

theorem switchLost_clock (d : Axis) (h : ClockKept n s t) : ClockKept n s (switchLost d t) := by
  unfold switchLost
  split
  · exact h
  · exact ite_clock (modDoor_clock d _ (doorFault_clock _ _ d h)) h

theorem doorOffTimeEnd_clock (d : Axis) (h : ClockKept n s t) : ClockKept n s (doorOffTimeEnd d t) := ite_clock (modDoor_clock d _ h) h

/-! ## The Performance Engine -/

theorem countWaitTimeout_clock (h : ClockKept n s t) : ClockKept n s (countWaitTimeout t) := modPe_clock _ h

theorem preparationLimit_clock (h : ClockKept n s t) : ClockKept n s (preparationLimit t) := ite_clock (startPlaying_clock h) h

theorem divisionInstant_clock (h : ClockKept n s t) : ClockKept n s (divisionInstant t) := by
  unfold divisionInstant
  split
  · exact h
  · exact ite_clock (runEvents_clock (h.modSynth _)) h

theorem waitLimitExpiry_clock (h : ClockKept n s t) : ClockKept n s (waitLimitExpiry t) := by
  unfold waitLimitExpiry
  split
  · exact ite_clock (releaseHold_clock (countWaitTimeout_clock h)) h
  all_goals exact h

theorem stallTimeout_clock (h : ClockKept n s t) : ClockKept n s (stallTimeout t) := by
  unfold stallTimeout
  split
  · exact ite_clock (enterCoda_clock _ h) h
  all_goals exact h

theorem codaTimeout_clock (h : ClockKept n s t) : ClockKept n s (codaTimeout t) := by
  unfold codaTimeout
  split
  · exact ite_clock (enterIdle_clock (modPe_clock _ h)) h
  · exact h

theorem supplyTimerExpiry_clock (h : ClockKept n s t) : ClockKept n s (supplyTimerExpiry t) := ite_clock (abortToIdle_clock _ _ h) h

theorem thermalTimerExpiry_clock (h : ClockKept n s t) : ClockKept n s (thermalTimerExpiry t) := ite_clock (abortToIdle_clock _ _ h) h

theorem fillRing_clock (a : Nat) (data : List Byte) (h : ClockKept n s t) : ClockKept n s (fillRing a data t) := by
  unfold fillRing
  split
  iterate 2 exact requestReads_clock (modPe_clock _ h)
  all_goals exact h

theorem freePort_clock (h : ClockKept n s t) : ClockKept n s (freePort t) := modLu_clock _ h

theorem prefetchReadEnd_clock (data : List Byte) (h : ClockKept n s t) : ClockKept n s (prefetchReadEnd data t) := by
  have h1 := freePort_clock h
  unfold prefetchReadEnd
  split
  · exact h
  · dsimp only
    split
    · exact grantPort_clock (ite_clock h1 (fillRing_clock _ _ h1))
    all_goals exact grantPort_clock h1

theorem selfTest_clock (p : List Byte) (h : ClockKept n s t) : ClockKept n s (selfTest p t).state := by
  unfold selfTest
  split
  · exact h
  split
  · exact h
  split
  iterate 3 exact h
  all_goals
    split
    · exact h
    · exact modPe_clock _ h

theorem selfTestHandoff_clock (h : ClockKept n s t) : ClockKept n s (selfTestHandoff t) := by
  unfold selfTestHandoff
  split
  · exact h
  · exact ite_clock (handOver_clock _ _ h) h

theorem readLog_clock (p : List Byte) (h : ClockKept n s t) : ClockKept n s (readLog p t).state := by
  unfold readLog
  split <;> exact h

/-! ## The Schedule Unit -/

theorem setSeason_clock (p : List Byte) (h : ClockKept n s t) : ClockKept n s (setSeason p t).state := by
  unfold setSeason
  dsimp only
  split
  · exact recomputeTrigger_clock (evaluateSeason_clock (modSu_clock _ h))
  · exact h

theorem getSeason_clock (p : List Byte) (h : ClockKept n s t) : ClockKept n s (getSeason p t).state := by
  unfold getSeason
  split <;> exact h

theorem setHour_clock (p : List Byte) (h : ClockKept n s t) : ClockKept n s (setHour p t).state := by
  unfold setHour
  split
  · split
    · exact h
    · exact recomputeTrigger_clock (modSu_clock _ h)
  · exact h

theorem getHour_clock (p : List Byte) (h : ClockKept n s t) : ClockKept n s (getHour p t).state := by
  unfold getHour
  split <;> exact h

theorem playShow_clock (p : List Byte) (h : ClockKept n s t) : ClockKept n s (playShow p t).state := by
  unfold playShow
  split
  · exact h
  split
  · exact h
  split
  · exact h
  split
  · exact h
  split
  · exact h
  split
  · exact h
  · exact examineNewHead_clock t (modSu_clock _ (modSu_clock _ h))

theorem stopShow_clock (p : List Byte) (h : ClockKept n s t) : ClockKept n s (stopShow p t).state := by
  have h1 : ClockKept n s (stopEngine t) := stopSelfTest_clock _ (abortToCoda_clock _ h)
  unfold stopShow
  dsimp only
  split
  · exact flushQueue_clock h1
  · exact h1

/-! ## The Library Unit -/

theorem takeStoreOp_clock (o : StoreOp) (h : ClockKept n s t) : ClockKept n s (takeStoreOp o t) := modLu_clock _ h

theorem storeRead_clock (p : List Byte) (h : ClockKept n s t) : ClockKept n s (storeRead p t).state := by
  unfold storeRead
  dsimp only
  split_ifs
  · exact h
  · exact takeStoreOp_clock _ h
  · exact h

theorem storeWrite_clock (p : List Byte) (h : ClockKept n s t) : ClockKept n s (storeWrite p t).state := by
  unfold storeWrite
  dsimp only
  split_ifs
  · exact h
  · exact h
  · exact takeStoreOp_clock _ h
  · exact h

theorem storeErase_clock (p : List Byte) (h : ClockKept n s t) : ClockKept n s (storeErase p t).state := by
  unfold storeErase
  dsimp only
  split_ifs
  · exact h
  · exact h
  · exact takeStoreOp_clock _ h
  · exact h

theorem storeResult_clock (p : List Byte) (h : ClockKept n s t) : ClockKept n s (storeResult p t).state := by
  unfold storeResult
  split <;> exact h

theorem startWalk_clock (h : ClockKept n s t) : ClockKept n s (startWalk t) := modSu_clock _ (modLu_clock _ h)

theorem rescan_clock (p : List Byte) (h : ClockKept n s t) : ClockKept n s (rescan p t).state := by
  have h1 := fun o => startWalk_clock (takeStoreOp_clock o h)
  unfold rescan
  split_ifs
  · exact h
  · exact h
  · exact grantPort_clock (recomputeTrigger_clock (ite_clock (becomeLocked_clock (h1 _)) (h1 _)))

theorem walkTransferEnd_clock (data : List Byte) (h : ClockKept n s t) : ClockKept n s (walkTransferEnd data t) := by
  have h1 := freePort_clock h
  unfold walkTransferEnd
  split
  · next u w _ _ =>
    have h2 : ClockKept n s (if u.transfer = w.phase.transfer then walkStep w.phase data (freePort t) else (freePort t, none)).1 := by
      split
      · exact walkStep_clock _ _ h1
      · exact h1
    refine grantPort_clock ?_
    split
    · exact endWalk_clock _ (recomputeTrigger_clock h2)
    · exact recomputeTrigger_clock h2
  · exact h

theorem walkStatusTimeout_clock (h : ClockKept n s t) : ClockKept n s (walkStatusTimeout t) := by
  unfold walkStatusTimeout
  split
  · exact h
  split
  · exact ite_clock (grantPort_clock (modLu_clock _ h)) h
  all_goals exact h

theorem storeTransferEnd_clock (data : List Byte) (h : ClockKept n s t) : ClockKept n s (storeTransferEnd data t) := by
  have h1 := freePort_clock h
  unfold storeTransferEnd
  split
  · exact h
  · refine grantPort_clock ?_
    split
    · exact ite_clock h1 (storeStep_clock _ _ h1)
    · exact h1

theorem storeBusyTimeout_clock (h : ClockKept n s t) : ClockKept n s (storeBusyTimeout t) := by
  unfold storeBusyTimeout
  split
  · exact h
  split
  · exact ite_clock (endStoreOp_clock _ _ _ h) h
  all_goals exact h

theorem changeTimeout_clock (k : StoreKind) (limit : Nat) (h : ClockKept n s t) : ClockKept n s (changeTimeout k limit t) := by
  unfold changeTimeout
  split
  · exact h
  split
  · exact ite_clock (endStoreOp_clock _ _ _ h) h
  all_goals exact h

/-! ## The Strike Unit -/

theorem strikeTest_clock (p : List Byte) (h : ClockKept n s t) : ClockKept n s (strikeTest p t).state := by
  unfold strikeTest
  dsimp only
  split
  · exact h
  split
  · exact h
  split
  · exact h
  split
  · exact h
  split
  · exact h
  · exact h.strikes (strikeArrives_onlyStrikes _ (.refl t))

theorem getBell_clock (p : List Byte) (h : ClockKept n s t) : ClockKept n s (getBell p t).state := by
  unfold getBell
  split <;> exact h

theorem counterSelect_clock (p : List Byte) (h : ClockKept n s t) : ClockKept n s (counterSelect p t).state := by
  unfold counterSelect
  split
  · exact modSt_clock _ h
  · exact h

theorem counterSnapshot_clock (p : List Byte) (h : ClockKept n s t) : ClockKept n s (counterSnapshot p t).state :=
  ite_clock (modSt_clock _ h) h

theorem strikeHeadDue_clock (h : ClockKept n s t) : ClockKept n s (strikeHeadDue t) := ite_clock (examineStrikes_clock h) h

theorem slackExpiry_clock (h : ClockKept n s t) : ClockKept n s (slackExpiry t) := ite_clock (examineStrikes_clock h) h

theorem openCoil_clock (b : Bell) (h : ClockKept n s t) : ClockKept n s (openCoil b t) := h.strikes (openCoil_onlyStrikes b (.refl t))

theorem pulseEnd_clock (b : Bell) (h : ClockKept n s t) : ClockKept n s (pulseEnd b t) :=
  ite_clock (ite_clock (h.strikes (endPulseClean_onlyStrikes b (.refl t))) (openCoil_clock b h)) h

theorem recoveryEnd_clock (b : Bell) (h : ClockKept n s t) : ClockKept n s (recoveryEnd b t) :=
  ite_clock (h.strikes (endRecovery_onlyStrikes b (.refl t))) h

theorem hlimChange_clock (b : Bell) (active : Bool) (h : ClockKept n s t) : ClockKept n s (hlimChange b active t) := by
  have h1 := fun f => modPins_clock f h
  unfold hlimChange
  exact ite_clock (modChan_clock b _ (h1 _)) (h1 _)

theorem hprsChange_clock (b : Bell) (active : Bool) (h : ClockKept n s t) : ClockKept n s (hprsChange b active t) := by
  have h1 := fun f => modPins_clock f h
  unfold hprsChange
  exact ite_clock (modChan_clock b _ (h1 _)) (h1 _)

theorem overCurrent_clock (b : Bell) (h : ClockKept n s t) : ClockKept n s (overCurrent b t) :=
  ite_clock (h.strikes (bellOverCurrent_onlyStrikes b (.refl t))) h

theorem presenceDeadline_clock (b : Bell) (h : ClockKept n s t) : ClockKept n s (presenceDeadline b t) :=
  ite_clock (ite_clock (modChan_clock b _ h) (openCoil_clock b h)) h

theorem bellOffTimeEnd_clock (b : Bell) (h : ClockKept n s t) : ClockKept n s (bellOffTimeEnd b t) :=
  ite_clock (examineStrikes_clock (modChan_clock b _ h)) h

theorem decayTick_clock (h : ClockKept n s t) : ClockKept n s (decayTick t) :=
  ite_clock (h.strikes (reportWarm_onlyStrikes (forEach_onlyStrikes (fun b _ => decayBell_onlyStrikes b) allBells (.refl t)))) h

theorem damperEnd_clock (b : Bell) (h : ClockKept n s t) : ClockKept n s (damperEnd b t) := ite_clock (modChan_clock b _ h) h

theorem pickupEdge_clock (b : Bell) (h : ClockKept n s t) : ClockKept n s (pickupEdge b t) := modChan_clock b _ h

theorem verifyWindowEnd_clock (b : Bell) (h : ClockKept n s t) : ClockKept n s (verifyWindowEnd b t) := by
  unfold verifyWindowEnd
  split
  · exact ite_clock (ite_clock (modChan_clock b _ h) (h.strikes (verdict_onlyStrikes b _ (.refl t)))) h
  all_goals exact h

/-! ## The Supervision Unit -/

theorem setPlaying_clock (p : Presentation) (h : ClockKept n s t) : ClockKept n s (setPlaying p t) := by
  have h1 := putReason_clock .operator (p == .quiet) h
  exact enterPresentation_clock p (ite_clock (owePark_clock false h1) h1)

theorem setStill_clock (h : ClockKept n s t) : ClockKept n s (setStill t) :=
  ite_clock h (owePark_clock true (enterPresentation_clock .still h))

theorem setState_clock (p : List Byte) (h : ClockKept n s t) : ClockKept n s (setState p t).state := by
  unfold setState
  split
  iterate 4 exact h
  all_goals
    split
    · exact h
    · exact setStill_clock h
    · exact setPlaying_clock _ h

theorem serviceRequest_clock (p : List Byte) (h : ClockKept n s t) : ClockKept n s (serviceRequest p t).state := by
  unfold serviceRequest
  split
  iterate 3 exact enterServicePending_clock h
  all_goals exact h

theorem resumeRequest_clock (p : List Byte) (h : ClockKept n s t) : ClockKept n s (resumeRequest p t).state := by
  unfold resumeRequest
  split
  iterate 2 exact cancelService_clock h
  · split
    · exact h
    · exact leaveService_clock h
  all_goals exact h

theorem serviceReqChange_clock (active : Bool) (h : ClockKept n s t) : ClockKept n s (serviceReqChange active t) :=
  ite_clock h (modSv_clock _ (modPins_clock _ h))

theorem servicePress_clock (h : ClockKept n s t) : ClockKept n s (servicePress t) := ite_clock (press_clock (modSv_clock _ h)) h

theorem hatchShowsOpen_clock (h : ClockKept n s t) : ClockKept n s (hatchShowsOpen t) := by
  have h1 := fun f g => modSv_clock g (modPins_clock f h)
  unfold hatchShowsOpen
  exact ite_clock (h1 _ _) (openHatch_clock (h1 _ _))

theorem hatchShowsClosed_clock (h : ClockKept n s t) : ClockKept n s (hatchShowsClosed t) := by
  have h1 := fun f => modPins_clock f h
  unfold hatchShowsClosed
  exact ite_clock (modSv_clock _ (h1 _)) (h1 _)

theorem hatchCloses_clock (h : ClockKept n s t) : ClockKept n s (hatchCloses t) := by
  unfold hatchCloses
  split
  · exact h
  · exact ite_clock (modSv_clock _ h) h

theorem codeBit_clock (high : Bool) (h : ClockKept n s t) : ClockKept n s (codeBit high t) := ite_clock (modSv_clock _ h) h

theorem restartCodes_clock (hush : Byte) (hushLen : Nat) (release : Byte) (releaseLen : Nat) (m : CodeMode) (h : ClockKept n s t) :
    ClockKept n s (restartCodes hush hushLen release releaseLen m t) := by
  have h1 := fun f => reportCodes_clock (modSv_clock f h)
  cases m with
  | manual => exact removeReason_clock .hush (h1 _)
  | auto => exact h1 _

theorem setCodes_clock (p : List Byte) (h : ClockKept n s t) : ClockKept n s (setCodes p t).state := by
  unfold setCodes
  dsimp only
  split
  · exact h
  split
  · exact restartCodes_clock _ _ _ _ _ h
  · exact h

/-! ## The Time Base -/

theorem setTime_clock (p : List Byte) (h : ClockKept n s t) : ClockKept n s (setTime p t).state := by
  unfold setTime
  dsimp only
  split
  · exact offerStep_clock _ _ h
  · exact h

/-- The start of a second changes the wall clock alone (R7). -/
theorem beginSecond_keeps (b : TimeBase) : b.beginSecond.counter = b.counter ∧ b.beginSecond.timeSet = b.timeSet := by
  unfold TimeBase.beginSecond
  dsimp only
  split_ifs <;> exact ⟨rfl, rfl⟩

theorem wallSecond_clock (h : ClockKept n s t) : ClockKept n s (wallSecond t) := by
  obtain ⟨hc, hs⟩ := beginSecond_keeps t.tb
  have h1 : ClockKept n s (t.modTb TimeBase.beginSecond) := h.modTb hc fun x => hs.trans x
  have h2 : ClockKept n s (calendarWrap t (t.modTb TimeBase.beginSecond)) := ite_clock (setRecord_clock _ h1) h1
  exact ite_clock (ite_clock h2 (evaluateSeason_clock h2)) h

theorem holdOver_clock (h : ClockKept n s t) : ClockKept n s (holdOver t) := by
  unfold holdOver
  split
  · exact h
  · exact ite_clock (h.modTb rfl id) h

theorem actOnOffset_clock (offset : Int) (h : ClockKept n s t) : ClockKept n s (actOnOffset offset t) :=
  ite_clock (h.modTb rfl id) (offerStep_clock _ _ (h.modTb rfl id))

theorem ppsEdge_clock (h : ClockKept n s t) : ClockKept n s (ppsEdge t) := by
  have h1 := fun f hc hs => setLevel_clock .ppsLost false (h.modTb (f := f) hc hs)
  unfold ppsEdge
  exact ite_clock (actOnOffset_clock _ (h1 _ rfl id)) (h1 _ rfl id)

theorem ppsLost_clock (h : ClockKept n s t) : ClockKept n s (ppsLost t) := by
  unfold ppsLost
  split
  · exact h
  · exact ite_clock (setLevel_clock _ _ (h.modTb rfl id)) h

end Sys2Proof.Machine
end

section
/-! SUPPORT. Every command keeps the clock: each form of a meaning keeps what its effect keeps, and each command is one form over one
effect. -/

namespace Sys2Proof.Machine

/-- Every request's answer keeps the clock. -/
theorem answerOf_clock (r : Request) {n : Nat} {s t : State} (h : ClockKept n s t) : ClockKept n s (answerOf r t).state := by
  refine answerOf_keeps (P := fun a => ClockKept n s a.state) r t ?_ h
  simp only [List.forall_mem_cons]
  exact ⟨h, h, setTime_clock _ h, h, setSeason_clock _ h, getSeason_clock _ h, setHour_clock _ h, getHour_clock _ h, playShow_clock _ h,
    stopShow_clock _ h, h, setState_clock _ h, serviceRequest_clock _ h, resumeRequest_clock _ h, setCodes_clock _ h, strikeTest_clock _ h,
    selfTest_clock _ h, h, getBell_clock _ h, counterSelect_clock _ h, counterSnapshot_clock _ h, readLog_clock _ h, moveAxis_clock _ h,
    homeAxis_clock _ h, clearFault_clock _ h, getAxis_clock _ h, getDoor_clock _ h, storeRead_clock _ h, storeWrite_clock _ h,
    storeErase_clock _ h, storeResult_clock _ h, rescan_clock _ h, h, modLp_clock _ h, h, List.forall_mem_nil _⟩

/-- The outcome is a next state, `dt` microseconds on by the clock. -/
def AnswersIn (dt : Nat) (s : State) (o : Host.Outcome State Fault Refusal) : Prop := ∃ t, o = .next t ∧ ClockKept dt s t

theorem serve_clock {n : Nat} {s t : State} (h : ClockKept n s t) : ClockKept n s (serve t) :=
  serveFor_keeps (P := ClockKept n s)
    (fun r _ => take_keeps (P := ClockKept n s) (fun i _ _ => immediate_clock i) (fun f _ => modLp_clock f) (fun r _ => answerOf_clock r) r)
    _ t h

theorem event_answersIn (dt : Nat) (s : State) {effect : State → State}
    (he : ∀ {t}, ClockKept dt s t → ClockKept dt s (effect t)) : AnswersIn dt s (event dt effect s) :=
  ⟨_, rfl, serve_clock (conclude_keeps (P := ClockKept dt s) (fun i _ _ => immediate_clock i) (fun f _ => modLp_clock f)
    (he (.elapse dt s)))⟩

theorem linkEvent_answersIn (dt : Nat) (s : State) {effect : State → State}
    (he : ∀ {t}, ClockKept dt s t → ClockKept dt s (effect t)) : AnswersIn dt s (linkEvent dt effect s) :=
  ⟨_, rfl, serve_clock (arbitrate_keeps (P := ClockKept dt s) (fun f _ => modLp_clock f) (he (.elapse dt s)))⟩

theorem hostRequest_answersIn (dt : Nat) (kind tag : Byte) (p : List Byte) (s : State) : AnswersIn dt s (hostRequest dt kind tag p s) :=
  linkEvent_answersIn dt s (receive_clock _)

/-- Every command but POWER_ON_RESET moves the clock by its own time alone. -/
theorem exec_answersIn (c : Instr) (s : State) (hc : ∀ b1 b0, c ≠ .powerOnReset b1 b0) : AnswersIn c.elapsed s (exec c s) := by
  cases c with
  | powerOnReset b1 b0 => exact absurd rfl (hc b1 b0)
  | softReset | ident | getStatus | setTime | getTime | setSeason | getSeason | setHour | getHour | playShow | stopShow | getQueue
  | setState | service | resume | setCodes | strikeTest | selfTest | getSelfTest | getBell | counterSelect | counterSnapshot | readLog
  | moveAxis | homeAxis | clearFaultBell | clearFaultAxis | getAxis | getDoor | storeRead | storeWrite | storeErase | storeResult
  | rescan | getWalkReport | setNoticeMask => exact hostRequest_answersIn _ _ _ _ s
  | unknownKind dt kind tag p =>
    show AnswersIn dt s (execUnknownKind dt kind tag p s)
    unfold execUnknownKind
    split
    · exact linkEvent_answersIn dt s id
    · exact hostRequest_answersIn dt kind tag p s
  | frameReceived => exact linkEvent_answersIn _ s frameReceived_clock
  | badFrame => exact linkEvent_answersIn _ s (badFrame_clock _)
  | frameGapTimeout => exact linkEvent_answersIn _ s frameGap_clock
  | byteReceived => exact linkEvent_answersIn _ s (byteReceived_clock _)
  | softResetInstant dt =>
    exact event_answersIn dt s (effect := fun t => if sendingSoftResetReply t then softReset t else t) fun h => ite_clock (softReset_clock h) h
  | transmitEnd => exact event_answersIn _ s transmitEnd_clock
  | wallSecondStart => exact event_answersIn _ s wallSecond_clock
  | slewHoldEnd => exact event_answersIn _ s holdOver_clock
  | ppsEdge => exact event_answersIn _ s ppsEdge_clock
  | ppsLossTimeout => exact event_answersIn _ s ppsLost_clock
  | nextTriggerHandled => exact event_answersIn _ s nextTriggerHandled_clock
  | heldLinkHeadDue dt =>
    exact event_answersIn dt s (effect := fun t => if heldHeadDue t then examineQueue t else t) fun h => ite_clock (examineQueue_clock h) h
  | dueCountReached dt =>
    exact event_answersIn dt s (effect := fun t => if mayStart t then startPlaying t else t) fun h => ite_clock (startPlaying_clock h) h
  | preparationLimit => exact event_answersIn _ s preparationLimit_clock
  | divisionInstant => exact event_answersIn _ s divisionInstant_clock
  | waitLimitExpiry => exact event_answersIn _ s waitLimitExpiry_clock
  | prefetchReadEnd => exact event_answersIn _ s (prefetchReadEnd_clock _)
  | stallTimeout => exact event_answersIn _ s stallTimeout_clock
  | codaTimeout => exact event_answersIn _ s codaTimeout_clock
  | supplyTimerExpiry => exact event_answersIn _ s supplyTimerExpiry_clock
  | thermalTimerExpiry => exact event_answersIn _ s thermalTimerExpiry_clock
  | selfTestHandoff => exact event_answersIn _ s selfTestHandoff_clock
  | walkTransferEnd => exact event_answersIn _ s (walkTransferEnd_clock _)
  | walkStatusTimeout => exact event_answersIn _ s walkStatusTimeout_clock
  | storeTransferEnd => exact event_answersIn _ s (storeTransferEnd_clock _)
  | storeBusyTimeout => exact event_answersIn _ s storeBusyTimeout_clock
  | writeTimeout => exact event_answersIn _ s (changeTimeout_clock .write 10000)
  | eraseTimeout => exact event_answersIn _ s (changeTimeout_clock .erase 1000000)
  | strikeHeadDue => exact event_answersIn _ s strikeHeadDue_clock
  | slackExpiry => exact event_answersIn _ s slackExpiry_clock
  | pulseEnd _ b => exact event_answersIn _ s (pulseEnd_clock b)
  | recoveryEnd _ b => exact event_answersIn _ s (recoveryEnd_clock b)
  | hlimChange _ b => exact event_answersIn _ s (hlimChange_clock b _)
  | hprsActive _ b => exact event_answersIn _ s (hprsChange_clock b _)
  | overCurrent _ b => exact event_answersIn _ s (overCurrent_clock b)
  | presenceDeadline _ b => exact event_answersIn _ s (presenceDeadline_clock b)
  | bellOffTimeEnd _ b => exact event_answersIn _ s (bellOffTimeEnd_clock b)
  | decayTick => exact event_answersIn _ s decayTick_clock
  | dampEnd _ b => exact event_answersIn _ s (damperEnd_clock b)
  | pickupEdge _ b => exact event_answersIn _ s (pickupEdge_clock b)
  | verifyWindowEnd _ b => exact event_answersIn _ s (verifyWindowEnd_clock b)
  | axisCount _ a => exact event_answersIn _ s (countAxis_clock a)
  | reversalEnd _ a => exact event_answersIn _ s (reversalEnd_clock a)
  | dwellEnd _ a => exact event_answersIn _ s (dwellOver_clock a)
  | homeSwitchChange _ a => exact event_answersIn _ s (homeSwitchChange_clock a _)
  | farSwitchActive _ a => exact event_answersIn _ s (farSwitchChange_clock a _)
  | alimChange _ a => exact event_answersIn _ s (alimChange_clock a _)
  | axisStall _ a => exact event_answersIn _ s (axisStall_clock a)
  | travelTimeout _ a => exact event_answersIn _ s (travelTimeout_clock a)
  | axisOvercurrent _ a => exact event_answersIn _ s (axisOvercurrent_clock a)
  | axisOffTimeEnd _ a => exact event_answersIn _ s (axisOffTimeEnd_clock a)
  | doorSwitchChange _ d => exact event_answersIn _ s (doorSwitchChange_clock d _ _)
  | doorTimeout _ d => exact event_answersIn _ s (doorTimeout_clock d)
  | doorOvercurrent _ d => exact event_answersIn _ s (doorOvercurrent_clock d)
  | switchLost _ d => exact event_answersIn _ s (switchLost_clock d)
  | doorOffTimeEnd _ d => exact event_answersIn _ s (doorOffTimeEnd_clock d)
  | servicePress => exact event_answersIn _ s servicePress_clock
  | lampToggle => exact event_answersIn _ s (setLamp_clock _)
  | hatchOpening => exact event_answersIn _ s hatchShowsOpen_clock
  | hatchClosed => exact event_answersIn _ s hatchCloses_clock
  | hatchShowsClosed => exact event_answersIn _ s hatchShowsClosed_clock
  | supplySample dt v =>
    exact event_answersIn dt s (effect := fun t => if t.now % 1000 = 0 then takeSample (sampleOf v) t else t) fun h => ite_clock (takeSample_clock _ h) h
  | dieReading dt c =>
    exact event_answersIn dt s (effect := fun t => if t.now % 10000 = 0 then takeDieReading (clampDie c) t else t) fun h => ite_clock (takeDieReading_clock _ h) h
  | codeBlockEnd dt =>
    exact event_answersIn dt s (effect := fun t => if t.sv.hushCode.blockOver || t.sv.releaseCode.blockOver then endBlocks t else t) fun h => ite_clock (endBlocks_clock h) h
  | codeBit => exact event_answersIn _ s (codeBit_clock _)
  | serviceReqChange => exact event_answersIn _ s (serviceReqChange_clock _)

/-- Settles O60: a command is one effect at its own time, or the reset. -/
theorem everyCommandKeepsTheClock : Obligations.EveryCommandKeepsTheClock := by
  intro c s
  by_cases hc : ∃ b1 b0, c = .powerOnReset b1 b0
  · obtain ⟨b1, b0, rfl⟩ := hc
    exact ⟨_, rfl, fun hn => absurd rfl (hn b1 b0)⟩
  · have hn : ∀ b1 b0, c ≠ .powerOnReset b1 b0 := fun b1 b0 he => hc ⟨b1, b0, he⟩
    obtain ⟨t, ht, hk⟩ := exec_answersIn c s hn
    exact ⟨t, ht, fun _ => hk⟩

end Sys2Proof.Machine
end

section
/-! SUPPORT. A step of the wall clock (R9, R10): what it leaves of the Time Base, and what a raised kind leaves in the latch set (R195). -/

namespace Sys2Proof.Machine

theorem getLsbD_putBit_self {w : Nat} (x : BitVec w) {i : Nat} (h : i < w) : (putBit x i true).getLsbD i = true := by
  simp [putBit, h]

theorem Kind.num_lt (k : Kind) : k.num < 24 := by cases k <;> decide

/-- A kind that is not masked is latched when it is raised (R195). -/
theorem raise_latches (k : Kind) (s : State) (h : s.lp.mask.getLsbD k.num = false) : (raise k s).lp.latch.getLsbD k.num = true := by
  simp [raise, LinkPort.latchKind, h, getLsbD_putBit_self _ k.num_lt]

/-- A step changes the Time Base by the items of R10 alone. -/
theorem applyStep_tb (delta : Int) (src : StepSource) (s : State) : (applyStep delta src s).tb = s.tb.stepBy delta src :=
  (scheduleStep_sameTime _ _ _ _ (.refl _)).tb

/-- While the engine performs, an offered step becomes the pending step (R9). -/
theorem offerStep_performing (delta : Int) (src : StepSource) {s : State} (h : s.performing = true) :
    offerStep delta src s = raise .timeStepPending (s.modTb fun t => { t with pendingStep := some ⟨delta, src⟩ }) := by
  unfold State.performing at h
  unfold offerStep
  cases he : s.pe.engine with
  | idle | selfTest => simp [he] at h
  | preparing | playing | coda => rfl

/-- Otherwise it is applied at once, with no step left pending (R9). -/
theorem offerStep_resting (delta : Int) (src : StepSource) {s : State} (h : s.performing = false) :
    offerStep delta src s = examineQueue (applyStep delta src (s.modTb fun t => { t with pendingStep := none })) := by
  unfold State.performing at h
  unfold offerStep
  cases he : s.pe.engine with
  | idle | selfTest => rfl
  | preparing | playing | coda => simp [he] at h

/-- The Time Base after an offered step that is applied at once. -/
theorem offerStep_resting_tb (delta : Int) (src : StepSource) {s : State} (h : s.performing = false) :
    (offerStep delta src s).tb = { s.tb with pendingStep := none }.stepBy delta src := by
  rw [offerStep_resting delta src h, (examineQueue_sameTime (.refl _)).tb, applyStep_tb]
  rfl

/-- Settles O19, by the engine's state at the offer. -/
theorem stepsWaitForIdleEngine : Obligations.StepsWaitForIdleEngine := by
  intro delta src s
  refine ⟨fun h => ?_, fun h => ?_⟩
  · rw [offerStep_performing delta src h]
    exact ⟨rfl, raise_latches .timeStepPending _⟩
  · rw [offerStep_resting_tb delta src h]
    exact ⟨rfl, rfl, rfl, rfl, rfl⟩

end Sys2Proof.Machine
end

section
/-! SUPPORT. The tempo synthesizer: a run of divisions at one tempo (R15, R16), and the tempos of a ramp (R18). -/

namespace Sys2Proof.Machine

/-! ## Divisions at one tempo -/

/-- A division at the tempo of the one before it (R15). -/
theorem Synth.beginDivision_steady {y : Synth} {b : Boundary} (hramp : y.ramp = none) (ht : y.tempo = y.divTempo)
    (hb : y.boundary = some b) : y.beginDivision =
      if y.tempo ≤ y.acc + y.r then { y with acc := y.acc + y.r - y.tempo, divEnd := some (b.instant + y.n + 1) }
      else { y with acc := y.acc + y.r, divEnd := some (b.instant + y.n) } := by
  simp [beginDivision, advanceRamp, hramp, hb, ← ht]

/-- The synthesizer after `k` divisions at tempo `t` from the boundary of division `d` at `start`, with the accumulator 0 there: each division
has lasted `n`, and one microsecond longer for each time the accumulator, raised by `r`, reached `t` (R15). -/
structure Synth.SteadyRun (t n r d start k : Nat) (y : Synth) : Prop where
  tempo_eq : y.tempo = t
  divTempo_eq : y.divTempo = t
  n_eq : y.n = n
  r_eq : y.r = r
  ramp_eq : y.ramp = none
  acc_eq : y.acc = k * r % t
  boundary_eq : y.boundary = some ⟨d + k, start + k * n + k * r / t⟩

/-- Adding a number below `t` carries once into the quotient where the remainder reaches `t`. -/
theorem div_mod_add_of_lt {t a r : Nat} (hr : r < t) :
    (t ≤ a % t + r → (a + r) / t = a / t + 1 ∧ (a + r) % t = a % t + r - t) ∧
      (a % t + r < t → (a + r) / t = a / t ∧ (a + r) % t = a % t + r) := by
  have ha : t * (a / t) + a % t = a := Nat.div_add_mod a t
  have ht : a % t < t := Nat.mod_lt a (by omega)
  refine ⟨fun h => ?_, fun h => ?_⟩
  · have he : a + r = (a % t + r - t) + t * (a / t + 1) := by rw [Nat.mul_add]; omega
    rw [he, Nat.add_mul_div_left _ _ (by omega), Nat.add_mul_mod_self_left, Nat.div_eq_of_lt (by omega),
      Nat.mod_eq_of_lt (by omega)]
    omega
  · have he : a + r = (a % t + r) + t * (a / t) := by omega
    rw [he, Nat.add_mul_div_left _ _ (by omega), Nat.add_mul_mod_self_left, Nat.div_eq_of_lt h, Nat.mod_eq_of_lt h]
    omega

/-- A division of the run is timed by `n`, and one more where the accumulator reaches `t`; the next boundary stands at its end. -/
theorem Synth.SteadyRun.next {t n r d start k : Nat} {y : Synth} (hr : r < t) (h : y.SteadyRun t n r d start k) :
    ∃ e, y.beginDivision.divEnd = some e ∧ (y.beginDivision.nextBoundary e).SteadyRun t n r d start (k + 1) := by
  obtain ⟨htempo, hdiv, hyn, hyr, hramp, hacc, hb⟩ := h
  obtain ⟨hreach, hstay⟩ := div_mod_add_of_lt (a := k * r) hr
  rw [beginDivision_steady hramp (htempo.trans hdiv.symm) hb, htempo, hyn, hyr, hacc]
  by_cases hc : t ≤ k * r % t + r
  · obtain ⟨hq, hm⟩ := hreach hc
    refine ⟨start + k * n + k * r / t + n + 1, by rw [if_pos hc], ?_⟩
    rw [if_pos hc]
    refine ⟨rfl, hdiv, rfl, rfl, hramp, by simp [nextBoundary, Nat.succ_mul, hm], ?_⟩
    simp only [nextBoundary, hb, Option.map_some, Option.getD_some, Nat.succ_mul, hq]
    congr 2
    omega
  · obtain ⟨hq, hm⟩ := hstay (by omega)
    refine ⟨start + k * n + k * r / t + n, by rw [if_neg hc], ?_⟩
    rw [if_neg hc]
    refine ⟨rfl, hdiv, rfl, rfl, hramp, by simp [nextBoundary, Nat.succ_mul, hm], ?_⟩
    simp only [nextBoundary, hb, Option.map_some, Option.getD_some, Nat.succ_mul, hq]
    congr 2
    omega

/-- `k` divisions, one after another, by induction on `k`. -/
theorem Synth.SteadyRun.iterate {t n r d start : Nat} {y : Synth} {division : Synth → Synth} (hr : r < t)
    (hd : ∀ x e, x.beginDivision.divEnd = some e → division x = x.beginDivision.nextBoundary e) (h : y.SteadyRun t n r d start 0) :
    ∀ k, (Nat.iterate division k y).SteadyRun t n r d start k
  | 0 => h
  | k + 1 => by
    obtain ⟨e, he, hs⟩ := (iterate hr hd h k).next hr
    rw [Function.iterate_succ_apply', hd _ e he]
    exact hs

/-- Settles O23: after `t` divisions the accumulator has reached `t` as often as R says. -/
theorem tempoRunIsExact : Obligations.TempoRunIsExact := by
  intro t d start y hlo _ htempo hdiv hn hr hacc hramp hb division
  have ht : 0 < t := by omega
  have h0 : y.SteadyRun t (62500000 / t) (62500000 % t) d start 0 := ⟨htempo, hdiv, hn, hr, hramp, by simp [hacc], by simp [hb]⟩
  have hrun := h0.iterate (Nat.mod_lt _ ht) (division := division) (fun x e he => by simp only [division, he]) t
  have hsum : t * (62500000 / t) + 62500000 % t = 62500000 := Nat.div_add_mod _ t
  refine ⟨?_, by rw [hrun.acc_eq, Nat.mul_mod_right]⟩
  rw [hrun.boundary_eq, Nat.mul_div_cancel_left _ ht, Nat.add_assoc, hsum]

/-! ## Ramps -/

/-- A part `k / n` of a difference, truncated toward zero, lies between 0 and the difference. -/
theorem tdiv_part_between (x : Int) {k n : Nat} (hk : k ≤ n) (hn : 0 < n) :
    min 0 x ≤ (x * k).tdiv n ∧ (x * k).tdiv n ≤ max 0 x := by
  have pos : ∀ y : Int, 0 ≤ y → 0 ≤ (y * k).tdiv n ∧ (y * k).tdiv n ≤ y := by
    intro y hy
    have hyk : 0 ≤ y * (k : Int) := Int.mul_nonneg hy (by omega)
    rw [Int.tdiv_eq_ediv_of_nonneg hyk]
    have hle : y * (k : Int) ≤ y * n := Int.mul_le_mul_of_nonneg_left (by omega) hy
    exact ⟨Int.ediv_nonneg hyk (by omega), (Int.ediv_le_ediv (by omega) hle).trans_eq (Int.mul_ediv_cancel y (by omega))⟩
  rcases Int.le_total 0 x with hx | hx
  · have := pos x hx
    omega
  · have := pos (-x) (by omega)
    rw [Int.neg_mul, Int.neg_tdiv] at this
    omega

/-- Settles O24: a ramp's tempo lies between its first tempo and its target. -/
theorem rampStaysLegal : Obligations.RampStaysLegal := by
  intro r h0 h0' ht ht' hlen
  have hlast : r.tempoAt r.len = r.target := by
    unfold Ramp.tempoAt
    rw [Int.mul_tdiv_cancel _ (by omega)]
    omega
  refine ⟨hlast, fun k hk => ?_⟩
  have hb := tdiv_part_between ((r.target : Int) - r.t0) hk hlen
  unfold Ramp.tempoAt
  omega

end Sys2Proof.Machine
end

section
/-! SUPPORT. The calendar (R2): the years of a day number, the months of a day of the year, and the time of day, each with its inverse. -/

namespace Sys2Proof.Machine

/-! ## Years -/

/-- The days of the years from 2000 before a year of the calendar. -/
def daysBefore (year : Nat) : Nat := (year - 2000) * 365 + (year - 2000 + 3) / 4

theorem monthLengths_sum (year : Nat) : (monthLengths year).sum = if year % 4 = 0 then 366 else 365 := by
  unfold monthLengths
  split <;> rfl

theorem monthLengths_length (year : Nat) : (monthLengths year).length = 12 := rfl

theorem dayNumber_eq (year month day : Nat) :
    dayNumber year month day = daysBefore year + (((monthLengths year).take (month - 1)).sum + (day - 1)) := by
  simp only [dayNumber, daysBefore, Nat.add_assoc]

/-- A day number is a day of one of the calendar's years (R2). -/
theorem day_of_year (d : Nat) (h : d < 36525) :
    2000 ≤ yearOfDay d ∧ yearOfDay d ≤ 2099 ∧ dayOfYear d < (monthLengths (yearOfDay d)).sum ∧
      daysBefore (yearOfDay d) + dayOfYear d = d := by
  rw [monthLengths_sum]
  unfold yearOfDay dayOfYear daysBefore
  by_cases hl : d % 1461 < 366
  · simp only [hl, if_true]
    split <;> omega
  · simp only [hl, if_false]
    split <;> omega

/-- The years before a year and a day within it give both back. -/
theorem year_of_day {year r : Nat} (hlo : 2000 ≤ year) (hr : r < (monthLengths year).sum) :
    yearOfDay (daysBefore year + r) = year ∧ dayOfYear (daysBefore year + r) = r := by
  rw [monthLengths_sum] at hr
  unfold yearOfDay dayOfYear daysBefore
  obtain ⟨q, k, hk, rfl⟩ : ∃ q k, k < 4 ∧ year = 2000 + 4 * q + k := ⟨(year - 2000) / 4, (year - 2000) % 4, by omega, by omega⟩
  have hd : (2000 + 4 * q + k - 2000) * 365 + (2000 + 4 * q + k - 2000 + 3) / 4 + r = 1461 * q + (k * 365 + (k + 3) / 4 + r) := by omega
  have hr' : k * 365 + (k + 3) / 4 + r < 1461 := by split at hr <;> omega
  rw [hd, Nat.mul_add_div (by omega), Nat.mul_add_mod, Nat.div_eq_of_lt hr', Nat.mod_eq_of_lt hr']
  interval_cases k <;> split at hr <;> split <;> omega

theorem daysBefore_lt {year : Nat} (hhi : year ≤ 2099) : daysBefore year + (monthLengths year).sum ≤ 36525 := by
  rw [monthLengths_sum]
  unfold daysBefore
  split <;> omega

/-! ## Months -/

/-- The month found is one of those left, its day is one of its days, and they are the day sought. -/
theorem monthAndDay_spec : ∀ (ls : List Nat) (m r : Nat), r < ls.sum →
    ∃ i, i < ls.length ∧ (monthAndDay ls m r).1 = m + i ∧ 1 ≤ (monthAndDay ls m r).2 ∧ (monthAndDay ls m r).2 ≤ ls.getD i 0 ∧
      (ls.take i).sum + ((monthAndDay ls m r).2 - 1) = r
  | [], _, _, h => by simp at h
  | l :: rest, m, r, h => by
    unfold monthAndDay
    split
    · exact ⟨0, by simp, rfl, by simp, by simpa using by omega, by simp⟩
    · simp only [List.sum_cons] at h
      obtain ⟨i, hi, hm, h1, hd, hs⟩ := monthAndDay_spec rest (m + 1) (r - l) (by omega)
      exact ⟨i + 1, by simpa using hi, by omega, h1, by simpa using hd, by simp only [List.take_succ_cons, List.sum_cons]; omega⟩

/-- A day of the month numbered `i` among those left is found there. -/
theorem monthAndDay_of_mem : ∀ (ls : List Nat) (m i d : Nat), d < ls.getD i 0 →
    monthAndDay ls m ((ls.take i).sum + d) = (m + i, d + 1)
  | [], _, _, _, h => by simp at h
  | l :: rest, m, 0, d, h => by
    have hd : d < l := by simpa using h
    simp [monthAndDay, hd]
  | l :: rest, m, i + 1, d, h => by
    have ih := monthAndDay_of_mem rest (m + 1) i d (by simpa using h)
    have hn : ¬ l + (rest.take i).sum + d < l := by omega
    simp only [List.take_succ_cons, List.sum_cons, monthAndDay, hn, if_false]
    rw [show l + (rest.take i).sum + d - l = (rest.take i).sum + d by omega, ih]
    simp only [Prod.mk.injEq, and_true]
    omega

/-- A day of a month lies within its year. -/
theorem take_sum_add_lt (ls : List Nat) (i d : Nat) (h : d < ls.getD i 0) : (ls.take i).sum + d < ls.sum := by
  have hi : i < ls.length := by
    by_contra hn
    rw [List.getD_eq_default _ _ (by omega)] at h
    omega
  have hsum : (ls.take (i + 1)).sum ≤ ls.sum := (List.take_sublist _ _).sum_le_sum fun _ _ => Nat.zero_le _
  rw [List.getD_eq_getElem _ _ hi] at h
  rw [List.sum_take_succ _ _ hi] at hsum
  omega

/-- The day numbers of the calendar are its dates (R2). -/
theorem date_of_day (d : Nat) (h : d < 36525) :
    2000 ≤ yearOfDay d ∧ yearOfDay d ≤ 2099 ∧ 1 ≤ (monthDayOf d).1 ∧ (monthDayOf d).1 ≤ 12 ∧ 1 ≤ (monthDayOf d).2 ∧
      (monthDayOf d).2 ≤ lastDay (yearOfDay d) (monthDayOf d).1 ∧ dayNumber (yearOfDay d) (monthDayOf d).1 (monthDayOf d).2 = d := by
  obtain ⟨hlo, hhi, hr, hd⟩ := day_of_year d h
  obtain ⟨i, hi, hm, h1, hl, hs⟩ := monthAndDay_spec _ 1 _ hr
  rw [monthLengths_length] at hi
  have hi' : (monthDayOf d).1 = i + 1 := by rw [monthDayOf, hm]; omega
  refine ⟨hlo, hhi, by omega, by omega, h1, ?_, ?_⟩
  · have hl' : (monthDayOf d).2 ≤ (monthLengths (yearOfDay d)).getD i 0 := hl
    simpa [lastDay, hi'] using hl'
  · rw [dayNumber_eq, hi', Nat.add_sub_cancel, monthDayOf, hs, hd]

/-- The dates of the calendar are its day numbers (R2). -/
theorem day_of_date {year month day : Nat} (hlo : 2000 ≤ year) (hhi : year ≤ 2099) (hm : 1 ≤ month) (hd : 1 ≤ day)
    (hl : day ≤ lastDay year month) :
    dayNumber year month day < 36525 ∧ yearOfDay (dayNumber year month day) = year ∧
      monthDayOf (dayNumber year month day) = (month, day) := by
  have hl' : day - 1 < (monthLengths year).getD (month - 1) 0 := by
    rw [lastDay, if_neg (by omega)] at hl
    omega
  have hr := take_sum_add_lt _ _ _ hl'
  have hmax := daysBefore_lt hhi
  obtain ⟨hy, hdoy⟩ := year_of_day hlo hr
  rw [dayNumber_eq]
  refine ⟨by omega, hy, ?_⟩
  rw [monthDayOf, hy, hdoy, monthAndDay_of_mem _ _ _ _ hl']
  simp only [Prod.mk.injEq]
  omega

/-! ## Readings -/

/-- Settles O20: the day number and the time of day are the quotient and the remainder of the reading by the day. -/
theorem calendarRoundTrip : Obligations.CalendarRoundTrip := by
  refine ⟨fun r hr => ?_, fun t ht => ?_⟩
  · obtain ⟨hlo, hhi, hm1, hm12, hd1, hdl, hd⟩ := date_of_day (r / dayMicros) (by unfold dayMicros; omega)
    constructor
    · refine decide_eq_true ⟨hlo, hhi, hm1, hm12, hd1, hdl, ?_⟩
      simp only [dateTimeOf]
      unfold dayMicros hourMicros minuteMicros secondMicros
      omega
    · simp only [readingOf, dateTimeOf, hd]
      unfold dayMicros hourMicros minuteMicros secondMicros
      omega
  · simp only [validDateTime, decide_eq_true_eq] at ht
    obtain ⟨hlo, hhi, hm1, -, hd1, hdl, hh, hmin, hsec, hmic⟩ := ht
    obtain ⟨hlt, hy, hmd⟩ := day_of_date hlo hhi hm1 hd1 hdl
    have hday : readingOf t / dayMicros = dayNumber t.year t.month t.day := by
      unfold readingOf dayMicros hourMicros minuteMicros secondMicros
      omega
    have hrest : readingOf t % dayMicros = t.hour * hourMicros + t.minute * minuteMicros + t.second * secondMicros + t.micro := by
      unfold readingOf dayMicros hourMicros minuteMicros secondMicros
      omega
    constructor
    · unfold dayMicros at hday
      omega
    · unfold dateTimeOf
      simp only [hday, hrest, hy, hmd]
      unfold hourMicros minuteMicros secondMicros
      cases t
      simp only [DateTime.mk.injEq, true_and] at *
      omega

end Sys2Proof.Machine
end

section
/-! SUPPORT. The answers of the Time Base's and the Schedule Unit's setting requests on a ready link (R11, R12, R23, R24, R196, R198). -/

namespace Sys2Proof.Machine

/-- Settles O2: both are read of the instant they are taken. -/
theorem identityAndTimeAreReported : Obligations.IdentityAndTimeAreReported := by
  intro dt tag s u hu h
  exact ⟨ask_answers hu h rfl rfl rfl, ask_answers hu h rfl rfl rfl⟩

/-- SET_TIME asks of the engine what `performing` says (R11). -/
theorem setTime_idle_iff (s : State) : (s.pe.engine == .idle || s.pe.engine == .selfTest) = !s.performing := by
  unfold State.performing
  cases s.pe.engine <;> rfl

/-- SET_TIME with a valid time (R11). -/
theorem setTime_valid {p : List Byte} (s : State) (hv : validDateTime (dateTimeAt p 0) = true) :
    setTime p s =
      ⟨if s.performing then .deferred else .ok, [], offerStep ((readingOf (dateTimeAt p 0) : Int) - s.tb.reading) .host s⟩ := by
  simp only [setTime, hv, if_true, setTime_idle_iff]
  cases s.performing <;> rfl

theorem setIfInBounds_fin {α : Type} {n : Nat} (v : Vector α n) (i : Fin n) (x : α) : v.setIfInBounds i x = v.set i x := by
  ext j hj
  simp [Vector.getElem_setIfInBounds, Vector.getElem_set]

/-- SET_SEASON with arguments that pass its checks (R23). -/
theorem setSeason_good {p : List Byte} {i : Fin 16} (s : State) (hi : byteAt p 0 = i.val) (hok : (seasonAt p 1).ok = true) :
    setSeason p s = ⟨.ok, [], recomputeTrigger (evaluateSeason
      (s.modSu fun w => { w with seasons := w.seasons.set i (seasonAt p 1) }))⟩ := by
  have hle : i.val ≤ 15 := by omega
  simp only [setSeason, hi, hok, hle, and_self, if_true, setIfInBounds_fin]

/-- SET_HOUR with arguments that pass its checks (R24). -/
theorem setHour_good {p : List Byte} {pr : Fin 8} {h : Fin 24} {e : HourEntry} (s : State) (hp : byteAt p 0 = pr.val)
    (hh : byteAt p 1 = h.val) (he : hourEntryAt p 2 = some e) :
    setHour p s = ⟨.ok, [], recomputeTrigger
      (s.modSu fun w => { w with programmes := w.programmes.set pr (w.programmes[pr].set h e) })⟩ := by
  have hle : pr.val ≤ 7 ∧ h.val ≤ 23 := by omega
  have hput : ∀ w : ScheduleUnit, putHour pr h e w = { w with programmes := w.programmes.set pr (w.programmes[pr].set h e) } := by
    intro w
    simp [putHour, setIfInBounds_fin]
  simp only [setHour, hp, hh, he, hle, and_self, if_true, funext hput]

/-- SET_NOTICE_MASK (R196). -/
theorem noticeMask_gives {p : List Byte} {mask : KindSet} {both : LevelSet} (s : State) (hm : mask.toNat = numAt p 0 3)
    (hb : both.toNat = byteAt p 3) :
    noticeMask p s = ⟨.ok, [.u24 (some mask.toNat), .u8 (some both.toNat)],
      s.modLp fun l => { l with mask := mask, both := both, latch := l.latch &&& ~~~mask }⟩ := by
  have hm' : BitVec.ofNat 24 (numAt p 0 3) = mask := by rw [← hm, BitVec.ofNat_toNat, BitVec.setWidth_eq]
  have hb' : BitVec.ofNat 8 (byteAt p 3) = both := by rw [← hb, BitVec.ofNat_toNat, BitVec.setWidth_eq]
  simp only [noticeMask, hm', hb']
  rfl

/-- Settles O6: each request's answer, and the form of a request that is answered. -/
theorem settingsRequestsReplace : Obligations.SettingsRequestsReplace := by
  refine ⟨?_, fun dt tag s u hu h => ⟨?_, ?_⟩, ?_⟩
  · intro dt tag p s u delta hu h hp hv hd
    subst hd
    have hf : lengthFits 0x03 p = true := by simp [lengthFits, requiredLength, hp]
    exact act_answers hu h hf rfl (by cases u.performing <;> rfl) (setTime_valid u hv)
  · intro i p hp hi hok
    have hf : lengthFits 0x05 p = true := by simp [lengthFits, requiredLength, hp]
    exact act_answers hu h hf rfl rfl (setSeason_good u hi hok)
  · intro pr hr p e hp hpr hhr he
    have hf : lengthFits 0x07 p = true := by simp [lengthFits, requiredLength, hp]
    exact act_answers hu h hf rfl rfl (setHour_good u hpr hhr he)
  · intro dt tag p s u mask both hu h hp hm hb
    have hf : lengthFits 0x22 p = true := by simp [lengthFits, requiredLength, hp]
    exact ask_answers hu h hf rfl (noticeMask_gives u hm hb)

end Sys2Proof.Machine
end

section
/-! SUPPORT. The starts of wall seconds, slew holds and the PPS input (R2, R5, R6, R7). -/

namespace Sys2Proof.Machine

/-! ## Wall seconds -/

/-- A second begun at its own microsecond with no slew left (R7). -/
theorem beginSecond_of_zero {b : TimeBase} (hc : (b.second + 1) * secondMicros = b.reading) (h0 : b.slew = 0) :
    b.beginSecond =
      { b with second := b.reading % Config.spanMicros / secondMicros, reading := b.reading % Config.spanMicros } := by
  simp [TimeBase.beginSecond, slewOfSecond, hc, h0]

/-- With a positive slew the field is held at 0 for as long as the second works off (R7). -/
theorem beginSecond_of_pos {b : TimeBase} {a : Nat} (hc : (b.second + 1) * secondMicros = b.reading) (hpos : 0 < b.slew)
    (ha : (a : Int) = min b.slew 1000) :
    b.beginSecond =
      { b with
        second := b.reading % Config.spanMicros / secondMicros
        reading := b.reading % Config.spanMicros
        slew := b.slew - a
        holdEnd := some (b.counter + a) } := by
  have hx : slewOfSecond b.slew = a := by unfold slewOfSecond; omega
  have hn : ¬ (a : Int) ≤ 0 := by omega
  have ha' : 0 < a := by omega
  simp [TimeBase.beginSecond, hx, hc, ha', Nat.pos_iff_ne_zero.mp ha']

/-- With a negative slew the field starts later by as much as the second works off (R7). -/
theorem beginSecond_of_neg {b : TimeBase} {a : Nat} (hc : (b.second + 1) * secondMicros = b.reading) (hneg : b.slew < 0)
    (ha : (a : Int) = min (-b.slew) 1000) :
    b.beginSecond =
      { b with
        second := b.reading % Config.spanMicros / secondMicros
        reading := b.reading % Config.spanMicros + a
        slew := b.slew + a } := by
  have hx : slewOfSecond b.slew = -a := by unfold slewOfSecond; omega
  simp [TimeBase.beginSecond, hx, hc]

/-- The Time Base that O17 names is the one a second's start gives. -/
theorem beginSecond_gives {a sec r : Nat} {b v : TimeBase} (hc : (b.second + 1) * secondMicros = b.reading)
    (hr : r = b.reading % Config.spanMicros) (hsec : sec = r / secondMicros)
    (hv : (b.slew = 0 ∧ v = { b with second := sec, reading := r }) ∨
      (0 < b.slew ∧ (a : Int) = min b.slew 1000 ∧
        v = { b with second := sec, reading := r, slew := b.slew - a, holdEnd := some (b.counter + a) }) ∨
      (b.slew < 0 ∧ (a : Int) = min (-b.slew) 1000 ∧ v = { b with second := sec, reading := r + a, slew := b.slew + a })) :
    b.beginSecond = v := by
  subst hsec hr
  rcases hv with ⟨h0, rfl⟩ | ⟨hpos, ha, rfl⟩ | ⟨hneg, ha, rfl⟩
  · exact beginSecond_of_zero hc h0
  · exact beginSecond_of_pos hc hpos ha
  · exact beginSecond_of_neg hc hneg ha

theorem beginSecond_second {b : TimeBase} (hc : (b.second + 1) * secondMicros = b.reading) :
    b.beginSecond.second = b.reading % Config.spanMicros / secondMicros := by
  unfold TimeBase.beginSecond
  rw [hc]
  dsimp only
  split_ifs <;> rfl

/-- A carry that ends no day (R2). -/
theorem wallSecond_in_day {s : State} (hh : s.tb.holdEnd = none) (hc : (s.tb.second + 1) * secondMicros = s.tb.reading)
    (hd : s.tb.reading % dayMicros ≠ 0) (hspan : s.tb.reading ≤ Config.spanMicros) :
    wallSecond s = s.modTb TimeBase.beginSecond := by
  have hs := beginSecond_second hc
  unfold dayMicros Config.spanMicros secondMicros at *
  have hw : calendarWrap s (s.modTb TimeBase.beginSecond) = s.modTb TimeBase.beginSecond := by
    unfold calendarWrap
    rw [if_neg]
    simp only [modTb_tb, hs]
    omega
  have hday : s.tb.beginSecond.second / 86400 = s.tb.second / 86400 := by rw [hs]; omega
  unfold wallSecond secondMicros
  rw [if_pos ⟨by simp [hh], by omega⟩, hw]
  simp [hday]

/-- A carry that ends a day, but not the span or with the time-set flag clear (R2, R22). -/
theorem wallSecond_ends_day {s : State} (hh : s.tb.holdEnd = none) (hc : (s.tb.second + 1) * secondMicros = s.tb.reading)
    (hd : s.tb.reading % dayMicros = 0) (hspan : s.tb.reading ≤ Config.spanMicros)
    (hw : s.tb.reading < Config.spanMicros ∨ s.tb.timeSet = false) :
    wallSecond s = evaluateSeason (s.modTb TimeBase.beginSecond) := by
  have hs := beginSecond_second hc
  have hset := (beginSecond_keeps s.tb).2
  unfold dayMicros Config.spanMicros secondMicros at *
  have hw : calendarWrap s (s.modTb TimeBase.beginSecond) = s.modTb TimeBase.beginSecond := by
    unfold calendarWrap
    rw [if_neg]
    simp only [modTb_tb, hs, hset]
    rcases hw with hw | hw
    · omega
    · simp [hw]
  have hday : s.tb.beginSecond.second / 86400 ≠ s.tb.second / 86400 := by rw [hs]; omega
  unfold wallSecond secondMicros
  rw [if_pos ⟨by simp [hh], by omega⟩, hw]
  simp [hday]

/-- The carry that ends the span with the time-set flag set (R2, R22, R30). -/
theorem wallSecond_ends_span {s : State} (hh : s.tb.holdEnd = none) (hc : (s.tb.second + 1) * secondMicros = s.tb.reading)
    (hspan : s.tb.reading = Config.spanMicros) (hset : s.tb.timeSet = true) :
    wallSecond s = evaluateSeason ((s.modTb TimeBase.beginSecond).modSu fun w => { w with record := .clearSince 0 }) := by
  have hs := beginSecond_second hc
  have hset' := (beginSecond_keeps s.tb).2.trans hset
  unfold Config.spanMicros secondMicros at *
  have hw : calendarWrap s (s.modTb TimeBase.beginSecond) = setRecord (.clearSince 0) (s.modTb TimeBase.beginSecond) := by
    unfold calendarWrap
    rw [if_pos]
    simp only [modTb_tb, hs, hset', and_true]
    omega
  have hday : s.tb.beginSecond.second / 86400 ≠ s.tb.second / 86400 := by rw [hs]; omega
  unfold wallSecond secondMicros
  rw [if_pos ⟨by simp [hh], by omega⟩, hw]
  simp [setRecord, hday]

/-- A start of a second that comes at its own microsecond, by the day it ends (R2, R7, R22, R30). -/
theorem wallSecond_gives {v : TimeBase} {u : State} (hh : u.tb.holdEnd = none) (hc : (u.tb.second + 1) * secondMicros = u.tb.reading)
    (hspan : u.tb.reading ≤ Config.spanMicros) (hv : u.tb.beginSecond = v) :
    wallSecond u =
      if u.tb.reading % dayMicros ≠ 0 then u.modTb fun _ => v
      else if u.tb.reading < Config.spanMicros ∨ u.tb.timeSet = false then evaluateSeason (u.modTb fun _ => v)
      else evaluateSeason ((u.modTb fun _ => v).modSu fun w => { w with record := .clearSince 0 }) := by
  have hm : (u.modTb fun _ => v) = u.modTb TimeBase.beginSecond := by simp only [State.modTb, hv]
  rw [hm]
  by_cases hd : u.tb.reading % dayMicros = 0
  · rw [if_neg (not_not.mpr hd)]
    by_cases hw : u.tb.reading < Config.spanMicros ∨ u.tb.timeSet = false
    · rw [if_pos hw]
      exact wallSecond_ends_day hh hc hd hspan hw
    · rw [if_neg hw]
      obtain ⟨hge, hset⟩ := not_or.mp hw
      exact wallSecond_ends_span hh hc (Nat.le_antisymm hspan (Nat.not_lt.mp hge)) (by simpa using hset)
  · rw [if_pos hd]
    exact wallSecond_in_day hh hc hd hspan

/-- Settles O17, command by command. -/
theorem wallClockCommands : Obligations.WallClockCommands := by
  refine ⟨fun dt a sec r v s u hu hh hc hspan hr hsec hv => ?_, fun dt e n s u hu => ⟨?_, ?_, ?_, ?_⟩⟩
  · exact event_answers hu wallSecond (wallSecond_gives hh hc hspan (beginSecond_gives hc hr hsec hv))
  · intro he hn
    exact event_answers hu holdOver (by simp [holdOver, he, hn])
  · intro hd hp hn
    exact event_answers hu ppsLost (by simp [ppsLost, hd, hp, hn])
  · intro hn hp
    have hdue : dueTrigger u = some n := by rw [dueTrigger, hn, Option.filter_some_pos (by simpa using hp)]
    exact event_answers hu nextTriggerHandled (by simp [nextTriggerHandled, hdue])
  · intro hd
    exact event_answers hu (fun s => if heldHeadDue s then examineQueue s else s) (if_pos hd)

/-! ## PPS -/

/-- An offset is acted on exactly where the edge leaves LOCKED standing (table of R5). -/
theorem edgeRow_acts_iff (d : Discipline) (good : Bool) : (edgeRow d good).2 = true ↔ (edgeRow d good).1 = .locked := by
  cases d <;> cases good <;> decide

/-- An edge by its interval, its offset and the state it leads to (R5, R6). -/
theorem ppsEdge_gives {u : State} {good : Bool} {offset : Int} {d : Discipline} (hg : good = inWindow u.tb.prevEdge u.now)
    (ho : offset = foldOffset (microField u)) (hd : d = (edgeRow u.tb.discipline good).1) :
    ppsEdge u =
      if d = .locked then
        actOnOffset offset (setLevel .ppsLost false (u.modTb fun t =>
          { t with
            discipline := d
            prevEdge := some u.now
            lastOffset := some offset
            slew := if t.discipline = .locked ∧ d = .acquiring then 0 else t.slew }))
      else
        setLevel .ppsLost false (u.modTb fun t =>
          { t with
            discipline := d
            prevEdge := some u.now
            lastOffset := some offset
            slew := if t.discipline = .locked ∧ d = .acquiring then 0 else t.slew }) := by
  subst ho hd hg
  unfold ppsEdge
  simp only [edgeRow_acts_iff, Bool.and_eq_true, beq_iff_eq]
  rfl

/-- Settles O18: the state after the edge is the row of R5, whichever it is. -/
theorem ppsEdgeMovesDiscipline : Obligations.PpsEdgeMovesDiscipline := by
  intro dt s u good offset d hu hg ho hd
  have hg' : good = inWindow u.tb.prevEdge u.now := by
    rw [hg]
    cases u.tb.prevEdge <;> rfl
  have ho' : offset = foldOffset (microField u) := ho
  have hd' : d = (edgeRow u.tb.discipline good).1 := by
    rw [hd]
    cases u.tb.discipline <;> cases good <;> rfl
  exact ⟨_, rfl, event_answers hu ppsEdge (ppsEdge_gives hg' ho' hd')⟩

end Sys2Proof.Machine
end

section
/-! SUPPORT. What both resets give and what a soft reset keeps (R3, R13, R20, R61, R111, R133, R188). -/

namespace Sys2Proof.Machine

/-! ## The soft reset, block by block (R200) -/

theorem softReset_tb (s : State) : (softReset s).tb = s.tb.softReset := by
  unfold softReset
  split <;> rfl

theorem softReset_lu (s : State) : (softReset s).lu = LibraryUnit.reset s.lu.profile := by
  unfold softReset
  split <;> rfl

theorem softReset_st (s : State) : (softReset s).st = s.st.softReset := by
  unfold softReset
  split <;> rfl

theorem softReset_chan (s : State) (b : Bell) : (softReset s).chan b = (s.chan b).softReset := by
  simp [State.chan, softReset_st, StrikeUnit.softReset]

/-- A pending step that the reset applies is reported in the emptied latch set (R13). -/
theorem softReset_latches_step {s : State} {p : PendingStep} (h : s.tb.pendingStep = some p) :
    (softReset s).lp.latch.getLsbD Kind.timeStepped.num = true := by
  unfold softReset
  simp only [h, Option.isSome_some, if_true]
  exact raise_latches .timeStepped _ BitVec.getLsbD_zero

/-- What a soft reset leaves of the Time Base whether or not a step is pending. -/
theorem timeBase_softReset_frame (b : TimeBase) :
    b.softReset.counter = b.counter ∧ b.softReset.discipline = b.discipline ∧ b.softReset.prevEdge = b.prevEdge ∧
      b.softReset.lastOffset = b.lastOffset ∧ b.softReset.pendingStep = none ∧ b.softReset.synth = Synth.reset := by
  cases h : b.pendingStep with
  | none => rw [timeBase_softReset_none h]; exact ⟨rfl, rfl, rfl, rfl, rfl, rfl⟩
  | some p => rw [timeBase_softReset_some h]; exact ⟨rfl, rfl, rfl, rfl, rfl, rfl⟩

/-- Settles O50: each reset puts `Synth.reset` there. -/
theorem synthesizerAfterReset : Obligations.SynthesizerAfterReset := by
  intro b1 b0 s fresh
  have h : fresh Synth.reset := ⟨rfl, rfl, rfl, rfl, rfl, rfl, rfl, rfl⟩
  obtain ⟨-, -, -, -, -, hs⟩ := timeBase_softReset_frame s.tb
  refine ⟨h, ?_, h⟩
  rw [softReset_tb, hs]
  exact h

/-- Settles O52: block by block, and by the pending step. -/
theorem softResetKeeps : Obligations.SoftResetKeeps := by
  intro s t
  have htb : t.tb = s.tb.softReset := softReset_tb s
  obtain ⟨hc, hd, he, ho, hp, -⟩ := timeBase_softReset_frame s.tb
  rw [htb]
  refine ⟨hc, hd, he, ho, hp, fun h => ?_, fun p h => ?_, ?_, fun b => ?_⟩
  · rw [timeBase_softReset_none h]
    exact ⟨rfl, rfl, rfl, rfl⟩
  · rw [timeBase_softReset_some h]
    exact ⟨rfl, rfl, rfl, rfl, softReset_latches_step h⟩
  · rw [show t.lu = _ from softReset_lu s]
    rfl
  · rw [show t.chan b = _ from softReset_chan s b]
    exact ⟨rfl, rfl, rfl⟩

/-! ## The power-on reset (R188) -/

/-- With no switch active every door record is read as the reset value says (R157, R171). -/
theorem resetMotion_inactive : resetMotion Pins.reset 0 = MotionUnit.reset := by
  have hd : resetDoors Pins.reset 0 = Vector.replicate 8 DoorRecord.reset := by
    ext i hi : 1
    simp [resetDoors, Pins.reset, DoorRecord.blank, DoorRecord.read, DoorRecord.reset]
  simp only [resetMotion, MotionUnit.reset, hd]

theorem powerOn_inactive {s : State} (hpins : s.pins = Pins.reset) (hpending : s.pending = []) :
    powerOn false false s = State.reset := by
  simp only [powerOn, hpins, hpending, resetMotion_inactive]
  rfl

theorem powerOn_chan (b1 b0 : Bool) (s : State) (b : Bell) : (powerOn b1 b0 s).chan b = Channel.reset := by
  simp [State.chan, powerOn, StrikeUnit.reset]

theorem powerOn_axis (b1 b0 : Bool) (s : State) (a : Axis) : (powerOn b1 b0 s).axis a = AxisRecord.reset := by
  simp [State.axis, powerOn, resetMotion]

/-- The bit rate by the straps (R188). -/
theorem powerOn_bitRate (b1 b0 : Bool) (s : State) :
    (powerOn b1 b0 s).lp.bitRate = if b1 then (if b0 then 460800 else 230400) else if b0 then 115200 else 57600 := by
  cases b1 <;> cases b0 <;> rfl

/-- Settles O51, field by field; with every input inactive the state is `State.reset` by `powerOn_inactive`. -/
theorem powerOnGivesResetState : Obligations.PowerOnGivesResetState :=
  ⟨fun _ _ _ => rfl, fun _ => powerOn_inactive, fun b1 b0 s =>
    ⟨rfl, rfl, rfl, rfl, rfl, rfl, rfl, rfl, rfl, rfl, rfl, rfl, powerOn_chan b1 b0 s, powerOn_axis b1 b0 s, rfl, rfl, rfl, rfl, rfl, rfl,
      rfl, rfl, powerOn_bitRate b1 b0 s⟩⟩

end Sys2Proof.Machine
end

section
/-! SUPPORT. Posting a trigger's request (R32): which QUARTER request leaves a full queue, and everything a posting can do. -/

namespace Sys2Proof.Machine

/-! ## The oldest QUARTER request (R32) -/

/-- The first QUARTER request is the one that leaves. -/
theorem evictQuarter_append {q : ShowRequest} {after : List ShowRequest} (hq : q.origin = .quarter) :
    ∀ {before : List ShowRequest}, (∀ x ∈ before, x.origin ≠ .quarter) → evictQuarter (before ++ q :: after) = some (before ++ after)
  | [], _ => by simp [evictQuarter, hq]
  | x :: rest, h => by
    have hx : x.origin ≠ .quarter := h x (by simp)
    have ih := evictQuarter_append (after := after) hq (before := rest) fun y hy => h y (by simp [hy])
    simp [evictQuarter, hx, ih]

theorem evictQuarter_none : ∀ {l : List ShowRequest}, (∀ x ∈ l, x.origin ≠ .quarter) → evictQuarter l = none
  | [], _ => rfl
  | x :: rest, h => by
    have hx : x.origin ≠ .quarter := h x (by simp)
    have ih := evictQuarter_none (l := rest) fun y hy => h y (by simp [hy])
    simp [evictQuarter, hx, ih]

/-- One request leaves. -/
theorem evictQuarter_length : ∀ {l q : List ShowRequest}, evictQuarter l = some q → q.length + 1 = l.length
  | r :: rest, q, h => by
    unfold evictQuarter at h
    split at h
    · cases h; rfl
    · obtain ⟨q', hq', rfl⟩ := Option.map_eq_some_iff.mp h
      simp [evictQuarter_length hq']

/-! ## Posting (R32) -/

theorem postRequest_room {r : ShowRequest} {s : State} (h : s.su.queue.length < 4) :
    postRequest r s = countPosted (setQueue (s.su.queue ++ [r]) s) := by
  simp only [postRequest, h, if_true]

theorem postRequest_evicts {r : ShowRequest} {s : State} {q : List ShowRequest} (h : ¬ s.su.queue.length < 4) (hr : r.origin = .hour)
    (hq : evictQuarter s.su.queue = some q) : postRequest r s = countPosted (setQueue (q ++ [r]) (countDroppedFull s)) := by
  simp only [postRequest, h, if_false, hr, if_true, hq]

theorem postRequest_drops {r : ShowRequest} {s : State} (h : ¬ s.su.queue.length < 4)
    (hr : r.origin ≠ .hour ∨ evictQuarter s.su.queue = none) : postRequest r s = countDroppedFull s := by
  by_cases ho : r.origin = .hour
  · have hn := hr.resolve_left (not_not_intro ho)
    simp only [postRequest, h, if_false, ho, if_true, hn]
  · simp only [postRequest, h, if_false, ho]

/-- Everything a posting can do: the request joins a queue with room, or one that another has left, or it is dropped (R32). -/
theorem postRequest_cases (r : ShowRequest) (s : State) :
    (s.su.queue.length < 4 ∧ postRequest r s = countPosted (setQueue (s.su.queue ++ [r]) s)) ∨
      (∃ q, q.length + 1 = s.su.queue.length ∧ postRequest r s = countPosted (setQueue (q ++ [r]) (countDroppedFull s))) ∨
      postRequest r s = countDroppedFull s := by
  by_cases hroom : s.su.queue.length < 4
  · exact .inl ⟨hroom, postRequest_room hroom⟩
  · by_cases hr : r.origin = .hour
    · cases hq : evictQuarter s.su.queue with
      | none => exact .inr (.inr (postRequest_drops hroom (.inr hq)))
      | some q => exact .inr (.inl ⟨q, evictQuarter_length hq, postRequest_evicts hroom hr hq⟩)
    · exact .inr (.inr (postRequest_drops hroom (.inl hr)))

theorem append_one_length_le {l : List ShowRequest} (h : l.length < 4) (r : ShowRequest) : (l ++ [r]).length ≤ 4 := by
  rw [List.length_append]
  exact h

/-- A posting leaves a queue within its bound within it (R35). -/
theorem postRequest_length {s : State} (h : s.su.queue.length ≤ 4) (r : ShowRequest) : (postRequest r s).su.queue.length ≤ 4 := by
  obtain ⟨hroom, he⟩ | ⟨q, hq, he⟩ | he := postRequest_cases r s <;> rw [he]
  · exact append_one_length_le hroom r
  · exact append_one_length_le (l := q) (by omega) r
  · exact h

/-- Where a trigger posts nothing (R27, case 2). -/
theorem postingBarred_iff (s : State) : postingBarred s = true ↔ s.partLocked = true ∨ s.presenting = false := by
  simp [postingBarred]

end Sys2Proof.Machine
end

section
/-! SUPPORT. What a property of states must be kept by for every effect of a command to keep it (`EffectRules`): any change of the Strike
Unit, the Motion Unit, the Time Base, the Library Unit, the engine, the pins and the latch set, and the few ways in which the show queue and
the presentation state change. Each lemma says that an operation keeps such a property, in the order of the model's files. -/

namespace Sys2Proof.Machine

/-- The show queue is replaced only while the part presents, and then by one that a queue of at most 4 requests leaves at most 4 long
(R32, R33, R36); otherwise it is flushed (R35, R79). The presentation state enters RUN or QUIET as it is, and any other state with a
flush (R33, R35). -/
structure EffectRules (P : State → Prop) : Prop where
  strikes : ∀ {s t : State}, OnlyStrikes s t → P s → P t
  motion : ∀ {s t : State}, OnlyMotion s t → P s → P t
  tb : ∀ (f : TimeBase → TimeBase) {s : State}, P s → P (s.modTb f)
  lu : ∀ (f : LibraryUnit → LibraryUnit) {s : State}, P s → P (s.modLu f)
  pe : ∀ (f : PerformanceEngine → PerformanceEngine) {s : State}, P s → P (s.modPe f)
  pins : ∀ (f : Pins → Pins) {s : State}, P s → P (s.modPins f)
  su : ∀ {f : ScheduleUnit → ScheduleUnit} {s : State}, (f s.su).queue = s.su.queue → P s → P (s.modSu f)
  sv : ∀ {f : SupervisionUnit → SupervisionUnit} {s : State}, (f s.sv).presentation = s.sv.presentation → P s → P (s.modSv f)
  notices : ∀ {f : LinkPort → LinkPort} {s : State}, (f s.lp).besideNotices = s.lp.besideNotices → P s → P (s.modLp f)
  queue : ∀ {q : List ShowRequest} {s : State}, s.presenting = true → (s.su.queue.length ≤ 4 → q.length ≤ 4) → P s → P (setQueue q s)
  flush : ∀ {s : State}, P s → P (flushQueue s)
  present : ∀ {p : Presentation} {s : State}, (setPresentation p s).presenting = true → P s → P (setPresentation p s)
  withdraw : ∀ (p : Presentation) {s : State}, P s → P (flushQueue (setPresentation p s))

theorem ite_kept {α : Type} {P : α → Prop} {p : Prop} [Decidable p] {u v : α} (hu : P u) (hv : P v) : P (if p then u else v) := by
  split
  · exact hu
  · exact hv

namespace EffectRules

variable {P : State → Prop} {s u : State} (k : EffectRules P)
include k

/-! ## Single updates -/

theorem raise_kept (n : Kind) (h : P s) : P (raise n s) := k.notices (LinkPort.latchKind_besideNotices n s.lp) h

theorem setLevel_kept (v : Level) (on : Bool) (h : P s) : P (setLevel v on s) :=
  k.notices (LinkPort.report_besideNotices v on s.lp) h

theorem modChan_kept (b : Bell) (f : Channel → Channel) (h : P s) : P (s.modChan b f) := k.strikes (.modChan b f s) h
theorem modSt_kept (f : StrikeUnit → StrikeUnit) (h : P s) : P (s.modSt f) := k.strikes (.modSt f s) h
theorem modAxis_kept (a : Axis) (f : AxisRecord → AxisRecord) (h : P s) : P (s.modAxis a f) := k.motion (.modAxis a f s) h
theorem modDoor_kept (d : Axis) (f : DoorRecord → DoorRecord) (h : P s) : P (s.modDoor d f) := k.motion (.modDoor d f s) h

theorem demandDoors_kept (set : AxisSet) (f : DoorRecord → DoorRecord) (h : P s) : P (demandDoors set f s) :=
  k.motion (demandDoors_onlyMotion set f (.refl s)) h

/-! ## The Schedule Unit -/

theorem modCounters_kept (f : ScheduleCounters → ScheduleCounters) (h : P s) : P (modCounters f s) := k.su rfl h

/-- A counter that raises SHOW_DISCARDED (R38). -/
theorem countDiscarded_kept (f : ScheduleCounters → ScheduleCounters) (h : P s) : P (raise .showDiscarded (modCounters f s)) :=
  k.raise_kept _ (k.modCounters_kept f h)

/-- A request is posted while the part presents: it joins a queue with room, or takes the place of another (R32). -/
theorem postRequest_kept (r : ShowRequest) (hp : s.presenting = true) (h : P s) : P (postRequest r s) := by
  have hd : P (countDroppedFull s) := k.countDiscarded_kept _ h
  obtain ⟨hroom, he⟩ | ⟨q, hq, he⟩ | he := postRequest_cases r s <;> rw [he]
  · exact k.modCounters_kept _ (k.queue hp (fun _ => append_one_length_le hroom r) h)
  · have hlen : s.su.queue.length ≤ 4 → (q ++ [r]).length ≤ 4 := fun hs => append_one_length_le (by omega) r
    exact k.modCounters_kept _ (k.queue (s := countDroppedFull s) hp hlen hd)
  · exact hd

theorem setRecord_kept (r : TriggerRecord) (h : P s) : P (setRecord r s) := k.su rfl h

theorem judgeTrigger_kept (t : Nat) (old : Bool) (h : P s) : P (judgeTrigger t old s) := by
  unfold judgeTrigger
  split
  · exact h
  · split
    · exact k.modCounters_kept _ h
    · next hb =>
      have hp : s.presenting = true := Bool.of_not_eq_false fun hn => hb ((postingBarred_iff s).mpr (.inr hn))
      split
      · exact k.countDiscarded_kept _ h
      · split_ifs
        · exact k.countDiscarded_kept _ h
        · exact k.modCounters_kept _ h
        · exact k.postRequest_kept _ hp h

theorem handleTrigger_kept (t : Nat) (h : P s) : P (handleTrigger t s) := k.setRecord_kept _ (k.judgeTrigger_kept t false h)

theorem skipPassed_kept (c : Option Nat) : ∀ (n t : Nat) {s : State}, P s → P (skipPassed c n t s)
  | 0, _, _, h => h
  | n + 1, t, _, h => skipPassed_kept c n (t + 1) (ite_kept h (k.modCounters_kept _ h))

theorem catchUp_kept (before after : Nat) (h : P s) : P (catchUp before after s) := by
  have hs := fun c n t => k.skipPassed_kept c n t h
  unfold catchUp
  dsimp only
  split
  · exact h
  · split
    · exact k.setRecord_kept _ (hs _ _ _)
    · exact k.setRecord_kept _ (k.judgeTrigger_kept _ _ (hs _ _ _))

theorem stepBack_kept (after : Nat) (h : P s) : P (stepBack after s) := by
  unfold stepBack
  split
  · exact h
  · exact ite_kept (k.setRecord_kept _ h) h

theorem evaluateSeason_kept (h : P s) : P (evaluateSeason s) := by
  unfold evaluateSeason
  exact k.su rfl h

theorem scheduleStep_kept (before after : Nat) (wasSet : Bool) (src : StepSource) (h : P s) :
    P (scheduleStep before after wasSet src s) := by
  have he := k.evaluateSeason_kept h
  unfold scheduleStep
  dsimp only
  split
  · exact ite_kept (k.catchUp_kept _ _ he) (ite_kept (k.stepBack_kept _ he) he)
  · split
    · exact k.setRecord_kept _ he
    · exact he

theorem applyStep_kept (delta : Int) (src : StepSource) (h : P s) : P (applyStep delta src s) :=
  k.scheduleStep_kept _ _ _ _ (k.raise_kept _ (k.tb _ h))

theorem applyPending_kept (h : P s) : P (applyPending s) := by
  unfold applyPending
  split
  · exact h
  · exact k.applyStep_kept _ _ (k.tb _ h)

/-! ## The Library Unit -/

theorem modReport_kept (f : WalkReport → WalkReport) (h : P s) : P (modReport f s) := k.lu _ h

theorem modWalk_kept (f : Walk → Walk) (h : P s) : P (modWalk f s) := k.lu _ h

theorem grantPort_kept (h : P s) : P (grantPort s) := k.lu _ h

theorem freePort_kept (h : P s) : P (freePort s) := k.lu _ h

theorem useShow_kept (r : RecordHeader) (p : List Byte) (h : P s) : P (useShow r p s) :=
  ite_kept (k.modReport_kept _ h) (ite_kept (k.modReport_kept _ h) (k.modReport_kept _ (k.lu _ h)))

theorem usePoseList_kept (r : RecordHeader) (p : List Byte) (h : P s) : P (usePoseList r p s) :=
  ite_kept (k.modReport_kept _ h) (ite_kept (k.modReport_kept _ h) (k.modReport_kept _ (k.lu _ h)))

theorem useInstall_kept (r : RecordHeader) (p : List Byte) (h : P s) : P (useInstall r p s) :=
  ite_kept (k.modReport_kept _ h) (k.modWalk_kept _ (k.modReport_kept _ h))

theorem useSeasons_kept (r : RecordHeader) (p : List Byte) (h : P s) : P (useSeasons r p s) :=
  ite_kept (k.modReport_kept _ h)
    (ite_kept (k.modReport_kept _ (k.modReport_kept _ h)) (k.modWalk_kept _ (k.modReport_kept _ h)))

theorem useProgrammes_kept (r : RecordHeader) (p : List Byte) (h : P s) : P (useProgrammes r p s) :=
  ite_kept (k.modReport_kept _ h)
    (ite_kept (k.modReport_kept _ (k.modReport_kept _ h)) (k.modWalk_kept _ (k.modReport_kept _ h)))

theorem useRecord_kept (r : RecordHeader) (p : List Byte) (h : P s) : P (useRecord r p s) := by
  unfold useRecord
  split
  · exact k.useInstall_kept r p h
  · exact k.useShow_kept r p h
  · exact k.usePoseList_kept r p h
  · exact k.useSeasons_kept r p h
  · exact k.useProgrammes_kept r p h
  · exact h
  · exact k.modReport_kept _ h

theorem followPointer_kept (current next : Nat) (h : P s) : P (followPointer current next s).1 := by
  unfold followPointer
  split
  · exact h
  · exact k.modWalk_kept _ h

theorem visitRecord_kept (r : RecordHeader) (h : P s) : P (visitRecord r s).1 := by
  unfold visitRecord
  dsimp only
  split
  · exact k.followPointer_kept _ _ (k.modReport_kept _ (k.modReport_kept _ h))
  · exact k.modWalk_kept _ (k.modReport_kept _ h)

theorem readRecord_kept (r : RecordHeader) (got : List Byte) (h : P s) : P (readRecord r got s).1 := by
  unfold readRecord
  split_ifs
  · exact k.modWalk_kept _ h
  · exact k.followPointer_kept _ _ (k.useRecord_kept r got h)
  · exact k.followPointer_kept _ _ (k.modReport_kept _ h)

theorem walkStep_kept (ph : WalkPhase) (data : List Byte) (h : P s) : P (walkStep ph data s).1 := by
  unfold walkStep
  split
  · split
    · exact k.modWalk_kept _ h
    · exact k.modWalk_kept _ h
  · split
    · exact k.followPointer_kept _ _ h
    · exact h
  · exact k.visitRecord_kept _ h
  · exact k.readRecord_kept _ _ h

theorem loadSeasons_kept (p : List Byte) (h : P s) : P (loadSeasons p s) := by
  unfold loadSeasons
  exact k.modReport_kept _ (k.su rfl h)

theorem loadProgrammes_kept (p : List Byte) (h : P s) : P (loadProgrammes p s) := by
  unfold loadProgrammes
  exact k.modReport_kept _ (k.su rfl h)

theorem loadTables_kept (w : Walk) (h : P s) : P (loadTables w s) := by
  unfold loadTables
  refine k.evaluateSeason_kept ?_
  cases w.seasonsBody with
  | none =>
    cases w.programmesBody with
    | none => exact h
    | some q => exact k.loadProgrammes_kept q h
  | some p =>
    cases w.programmesBody with
    | none => exact k.loadSeasons_kept p h
    | some q => exact k.loadProgrammes_kept q (k.loadSeasons_kept p h)

/-! ## The queue's head and the triggers -/

theorem requestReadsFor_kept : ∀ (fuel : Nat) {s : State}, P s → P (requestReadsFor fuel s)
  | 0, _, h => h
  | fuel + 1, s, h => by
    unfold requestReadsFor
    split
    · exact h
    · exact requestReadsFor_kept fuel (k.pe _ (k.lu _ h))

theorem requestReads_kept (h : P s) : P (requestReads s) := k.grantPort_kept (k.requestReadsFor_kept 16 h)

/-- What an examination leaves of the queue is a tail of it (R33, R34). -/
theorem examineHeads_kept : ∀ (l : List ShowRequest) {s : State}, s.presenting = true → (s.su.queue.length ≤ 4 → l.length ≤ 4) →
    P s → P (examineHeads l s)
  | [], _, hp, _, h => k.queue hp (fun _ => by simp) h
  | r :: rest, s, hp, hl, h => by
    have hrest : s.su.queue.length ≤ 4 → rest.length ≤ 4 := fun hs => (Nat.le_succ _).trans (hl hs)
    have discard := fun f => examineHeads_kept rest (s := raise .showDiscarded (modCounters f s)) hp hrest (k.countDiscarded_kept f h)
    unfold examineHeads
    split
    · exact discard _
    · split
      · exact discard _
      · split_ifs
        · exact discard _
        · exact k.queue hp hl h
        · exact k.demandDoors_kept _ _ (k.requestReads_kept (k.pe _ (k.queue hp hrest h)))

theorem examineQueue_kept (h : P s) : P (examineQueue s) := by
  unfold examineQueue
  split
  · next hc => exact k.examineHeads_kept _ (Bool.and_eq_true_iff.mp hc).2 id h
  · exact h

theorem examineNewHead_kept (before : State) (h : P s) : P (examineNewHead before s) := ite_kept h (k.examineQueue_kept h)

theorem nextTriggerHandled_kept (h : P s) : P (nextTriggerHandled s) := by
  obtain he | ⟨t, -, -, he⟩ := nextTriggerHandled_cases s <;> rw [he]
  · exact h
  · exact k.examineNewHead_kept s (k.handleTrigger_kept t h)

theorem recomputeTrigger_kept (h : P s) : P (recomputeTrigger s) :=
  recomputeTrigger_keeps (P := P) (fun _ => k.nextTriggerHandled_kept) h

/-! ## The Performance Engine: the score -/

theorem modSynth_kept (f : Synth → Synth) (h : P s) : P (s.modSynth f) := k.tb _ h

theorem modPerf_kept (f : Performance → Performance) (h : P s) : P (modPerf f s) := k.pe _ h

theorem strikeEvent_kept (bell velocity : Nat) (h : P s) : P (strikeEvent bell velocity s) := by
  unfold strikeEvent
  split
  · exact h
  · split
    · exact k.modPerf_kept _ h
    · exact ite_kept (k.strikes (strikeArrives_onlyStrikes _ (.refl s)) h) (k.modPerf_kept _ h)

theorem dampEvent_kept (bell : Nat) (h : P s) : P (dampEvent bell s) := by
  unfold dampEvent
  split
  · exact k.modPerf_kept _ h
  · exact ite_kept (k.strikes (dampCommand_onlyStrikes _ (.refl s)) h) (k.modPerf_kept _ h)

theorem cueEvent_kept (axis : Nat) (isList : Bool) (number : Nat) (h : P s) : P (cueEvent axis isList number s) := by
  unfold cueEvent
  split
  · exact h
  · split
    · exact k.modPerf_kept _ h
    · refine ite_kept (k.modPerf_kept _ h) (k.motion (settleMotion_onlyMotion ?_) h)
      split
      · split
        · exact startList_onlyMotion _ _ _ (.refl s)
        · exact .refl s
      · exact give_onlyMotion _ _ (.refl s)

theorem waitEvent_kept (axis seconds : Nat) (h : P s) : P (waitEvent axis seconds s) := by
  unfold waitEvent
  split
  · exact h
  · exact ite_kept h (ite_kept (k.modPerf_kept _ h) (k.pe _ h))

theorem enterCoda_kept (r : PerfResult) (h : P s) : P (enterCoda r s) := by
  unfold enterCoda
  refine k.demandDoors_kept _ _ (forEach_keeps (fun a s h => ?_) allAxes _ (k.modPerf_kept _ (k.pe _ (k.modSynth_kept _ h))))
  exact ite_kept (k.motion (sendHomeAfterStep_onlyMotion a (.refl s)) h) h

theorem passEvent_kept (i : Nat) (h : P s) : P (passEvent i s) := by
  unfold passEvent
  exact k.pe _ h

/-- The end of an event that is no loop mark (R66, R73). -/
theorem passed_kept (i : Nat) (h : P s) : P (abandonRetention (passEvent i s)) := by
  have hpass := k.passEvent_kept i h
  unfold abandonRetention
  split
  · exact hpass
  · exact ite_kept (k.pe _ hpass) hpass

theorem countBegin_kept (i : Nat) (h : P s) : P (countBegin i s) := by
  unfold countBegin
  exact k.pe _ h

theorem refetch_kept (start : Nat) (h : P s) : P (refetch start s) := by
  unfold refetch
  exact k.pe _ (k.lu _ h)

theorem countEnd_kept (l : LoopRecord) (h : P s) : P (countEnd l s) := by
  unfold countEnd
  exact ite_kept (k.pe _ h) (ite_kept (k.refetch_kept _ (k.pe _ h)) (k.pe _ h))

theorem carryOut_kept (i : Nat) (ev : Event) (h : P s) (hc : carryOut i ev s = some u) : P u := by
  unfold carryOut at hc
  cases ev with
  | strike => cases hc; exact k.passed_kept i (k.strikeEvent_kept _ _ h)
  | damp => cases hc; exact k.passed_kept i (k.dampEvent_kept _ h)
  | tempo | ramp =>
    dsimp only at hc
    split at hc
    · cases hc
    · cases hc; exact k.passed_kept i (k.modPerf_kept _ (k.modSynth_kept _ h))
  | cue => cases hc; exact k.passed_kept i (k.cueEvent_kept _ _ _ h)
  | waitAxis => cases hc; exact k.passed_kept i (k.waitEvent_kept _ _ h)
  | countBegin =>
    dsimp only at hc
    split at hc
    · cases hc
    · cases hc; exact k.countBegin_kept i (k.passEvent_kept i h)
  | countEnd =>
    dsimp only at hc
    split at hc
    · cases hc
    · cases hc; exact k.countEnd_kept _ (k.passEvent_kept i h)
  | mark => cases hc; exact k.passed_kept i (k.raise_kept _ (k.pe _ h))
  | finish =>
    dsimp only at hc
    split at hc
    · cases hc
    · cases hc; exact k.enterCoda_kept _ (k.passEvent_kept i h)
  | unknown => cases hc

theorem scoreError_kept (h : P s) : P (scoreError s) := k.enterCoda_kept _ (k.pe _ h)

theorem runEventsFor_kept : ∀ (fuel : Nat) {s : State}, P s → P (runEventsFor fuel s)
  | 0, _, h => h
  | fuel + 1, s, h => by
    unfold runEventsFor
    refine ite_kept (ite_kept (ite_kept (k.scoreError_kept h) (k.enterCoda_kept _ h)) ?_) h
    split
    · exact k.modPerf_kept _ (k.pe _ h)
    · refine ite_kept (k.modSynth_kept _ h) ?_
      split
      · exact k.scoreError_kept h
      · next hc =>
        have hu := k.carryOut_kept _ _ h hc
        exact runEventsFor_kept fuel (ite_kept (k.requestReads_kept hu) hu)

theorem runEvents_kept (h : P s) : P (runEvents s) := k.runEventsFor_kept 4096 h

theorem releaseHold_kept (h : P s) : P (releaseHold s) := k.runEvents_kept (k.modSynth_kept _ (k.pe _ h))

theorem exclude_kept (x : AxisSet) (h : P s) : P (exclude x s) := k.modPerf_kept _ h

theorem startPlaying_kept (h : P s) : P (startPlaying s) := by
  have h1 := fun x f => k.modPerf_kept f (k.exclude_kept x h)
  unfold startPlaying
  exact k.runEvents_kept (k.modPerf_kept _ (k.modSynth_kept _ (k.raise_kept _ (k.pe _ (h1 _ _)))))

/-! ## The ends of a performance and of a self-test, and steps -/

theorem writeLog_kept (h : P s) : P (writeLog s) := by
  unfold writeLog
  split
  · exact h
  · exact k.pe _ h

theorem autoTransfer_kept (h : P s) : P (autoTransfer s) := ite_kept (k.raise_kept _ (k.modSt_kept _ h)) h

theorem enterIdle_kept (h : P s) : P (enterIdle s) := by
  have h1 := fun f => k.autoTransfer_kept (k.raise_kept .showEnded (k.writeLog_kept (k.modPerf_kept f h)))
  unfold enterIdle
  exact k.examineQueue_kept (k.applyPending_kept (k.lu _ (k.pe _ (k.modSynth_kept _ (h1 _)))))

theorem abortToIdle_kept (r : PerfResult) (owe : Bool) (h : P s) : P (abortToIdle r owe s) :=
  k.enterIdle_kept (k.pe _ (k.demandDoors_kept _ _ (k.modPerf_kept _ h)))

theorem abortToCoda_kept (r : PerfResult) (h : P s) : P (abortToCoda r s) := by
  unfold abortToCoda
  split
  iterate 2 exact k.enterCoda_kept r h
  all_goals exact h

theorem handOver_kept (b : Bell) (rest : List Bell) (h : P s) : P (handOver b rest s) :=
  k.strikes (strikeArrives_onlyStrikes _ (.refl _)) (k.pe _ h)

theorem stopSelfTest_kept (c : TestCause) (h : P s) : P (stopSelfTest c s) := ite_kept (k.pe _ h) h

theorem endSelfTest_kept (h : P s) : P (endSelfTest s) :=
  k.examineQueue_kept (k.applyPending_kept (k.raise_kept _ (k.pe _ (k.pe _ h))))

theorem offerStep_kept (delta : Int) (src : StepSource) (h : P s) : P (offerStep delta src s) := by
  unfold offerStep
  split
  iterate 2 exact k.examineQueue_kept (k.applyStep_kept delta src (k.tb _ h))
  all_goals exact k.raise_kept _ (k.tb _ h)

/-! ## The mute reason set and the monitors -/

theorem haltTower_kept (h : P s) : P (haltTower s) := by
  refine forEach_keeps (fun d s h => k.motion (haltDoor_onlyMotion d (.refl s)) h) allAxes _ ?_
  refine forEach_keeps (f := fun a s => s.modAxis a (·.halt)) (fun a s h => k.modAxis_kept a _ h) allAxes _ ?_
  exact forEach_keeps (fun b s h => k.strikes (haltDamper_onlyStrikes b (.refl s)) h) allBells _ h

theorem reasonToEngine_kept (r : MuteReason) (h : P s) : P (reasonToEngine r s) := by
  unfold reasonToEngine
  split
  · split
    iterate 2 exact k.pe _ h
    all_goals exact h
  · exact ite_kept (k.abortToIdle_kept _ _ h) h
  all_goals exact h

theorem setReason_kept (r : MuteReason) (v : Bool) (h : P s) : P (setReason r v s) := k.sv rfl h

theorem addReasonWith_kept (first : Bool) (r : MuteReason) (h : P s) : P (addReasonWith first r s) :=
  addReasonWith_keeps (P := P) r (fun _ => k.setReason_kept r true)
    (fun s h => k.stopSelfTest_kept _ (k.strikes (flushStrikes_onlyStrikes (.refl s)) h))
    (fun _ b s _ h => k.strikes (enterRecovery_onlyStrikes b (cutPulse_onlyStrikes b _ (.refl s))) h)
    (fun _ _ => k.haltTower_kept) (fun _ => k.reasonToEngine_kept r) h

theorem addReason_kept (r : MuteReason) (h : P s) : P (addReason r s) := k.addReasonWith_kept true r h

theorem removeReason_kept (r : MuteReason) (h : P s) : P (removeReason r s) := by
  unfold removeReason
  cases r with
  | supply | thermal => exact k.pe _ (k.setReason_kept _ false h)
  | operator | hush | service => exact k.setReason_kept _ false h

theorem putReason_kept (r : MuteReason) (v : Bool) (h : P s) : P (putReason r v s) :=
  ite_kept (k.addReason_kept r h) (k.removeReason_kept r h)

theorem showSupply_kept (st : SupplyState) (h : P s) : P (showSupply st s) :=
  k.setLevel_kept _ _ (k.setLevel_kept _ _ (k.sv rfl h))

theorem judgeSupply_kept (vm : Nat) (h : P s) : P (judgeSupply vm s) := by
  unfold judgeSupply
  split
  · exact h
  · exact k.putReason_kept _ _ (k.showSupply_kept _ h)

theorem takeSample_kept (x : Nat) (h : P s) : P (takeSample x s) := by
  unfold takeSample
  dsimp only
  split
  · exact k.sv rfl h
  · exact k.judgeSupply_kept _ (k.sv rfl h)

theorem takeDieReading_kept (c : Int) (h : P s) : P (takeDieReading c s) :=
  k.putReason_kept _ _ (k.setLevel_kept _ _ (k.setLevel_kept _ _ (k.sv rfl (k.sv rfl h))))

theorem reportCodes_kept (h : P s) : P (reportCodes s) := k.setLevel_kept _ _ (k.setLevel_kept _ _ h)

theorem endBlocks_kept (h : P s) : P (endBlocks s) := by
  unfold endBlocks
  dsimp only
  split
  · exact k.reportCodes_kept (k.sv rfl h)
  · exact ite_kept (k.removeReason_kept _ (k.reportCodes_kept (k.sv rfl h)))
      (ite_kept (k.addReason_kept _ (k.reportCodes_kept (k.sv rfl h))) (k.reportCodes_kept (k.sv rfl h)))

/-! ## The presentation state -/

/-- RUN and QUIET have the queue's head examined, every other state flushes the queue (R33, R35). -/
theorem enterPresentation_kept (p : Presentation) (h : P s) : P (enterPresentation p s) := by
  cases p with
  | run | quiet => exact k.examineQueue_kept (k.present rfl h)
  | locked | still | servicePending | serviceReady | service => exact k.withdraw _ h

theorem owePark_kept (v : Bool) (h : P s) : P (owePark v s) := k.sv rfl h

theorem setLamp_kept (l : Lamp) (h : P s) : P (setLamp l s) := k.sv rfl h

/-- The lamp's and the notice's part of a service transition. -/
theorem serviceState_kept (l : Lamp) (h : P s) : P (raise .serviceState (setLamp l s)) := k.raise_kept _ (k.setLamp_kept l h)

theorem modFigures_kept (f : AxisRecord → AxisRecord) (h : P s) : P (forFigures (fun a s => s.modAxis a f) s) :=
  forFigures_keeps (fun a _ _ h => k.modAxis_kept a f h) h

theorem becomeLocked_kept (h : P s) : P (becomeLocked s) := by
  have h1 := forEach_keeps (f := fun a s => s.modAxis a (·.lock)) (fun a _ h => k.modAxis_kept a _ h) allAxes _ h
  have h2 := forEach_keeps (fun d s h => k.motion (syncMembers_onlyMotion d (.refl s)) h) allAxes _ h1
  have h3 := k.owePark_kept false (forEach_keeps (f := readDoor) (fun d _ h => k.modDoor_kept d _ h) allAxes _ h2)
  unfold becomeLocked
  dsimp only
  split
  iterate 3 exact k.enterPresentation_kept _ h3
  all_goals exact h3

/-! ## The end of a walk and of a store operation -/

theorem adoptBells_kept (h : P s) : P (adoptBells s) :=
  k.strikes (reportWarm_onlyStrikes (forEach_onlyStrikes (fun b _ => adoptProfileBell_onlyStrikes b) allBells (.refl s))) h

theorem dropAbsent_kept (h : P s) : P (dropAbsent s) :=
  forEach_keeps (fun a _ h => ite_kept h (k.modAxis_kept a _ h)) allAxes s h

theorem examineStrikes_kept (h : P s) : P (examineStrikes s) := k.strikes (examineStrikes_onlyStrikes (.refl s)) h

theorem makeReady_kept (h : P s) : P (makeReady s) := by
  have h1 : P (forFigures requestHome (raise .directoryReady s)) :=
    forFigures_keeps (fun a s _ h => k.motion (requestHome_onlyMotion a (.refl s)) h) (k.raise_kept _ h)
  have h2 := k.demandDoors_kept (BitVec.allOnes 8) DoorRecord.park h1
  unfold makeReady
  exact k.examineStrikes_kept (ite_kept (k.enterPresentation_kept _ h2) h2)

theorem lockOutSupply_kept (h : P s) : P (lockOutSupply s) := k.addReasonWith_kept _ _ (k.showSupply_kept _ h)

theorem holdResult_kept (o : StoreOp) (out : StoreOutcome) (data : List Byte) (h : P s) : P (holdResult o out data s) :=
  k.raise_kept _ (k.lu _ h)

theorem endWalk_kept (r : WalkReason) (h : P s) : P (endWalk r s) := by
  unfold endWalk
  split
  · exact h
  · next w _ =>
    have h1 := fun f => k.adoptBells_kept (k.dropAbsent_kept (k.lu f h))
    have h2 := fun f => ite_kept (p := walkOutcome r w.install s.lu.report.badCrc = .absent)
      (k.lockOutSupply_kept (k.strikes (dropStrikes_onlyStrikes .channelFault (.refl _)) (h1 f))) (h1 f)
    have h3 := fun f => k.recomputeTrigger_kept (k.loadTables_kept w (h2 f))
    have h4 := fun f => ite_kept (p := walkOutcome r w.install s.lu.report.badCrc = .absent) (h3 f) (k.makeReady_kept (h3 f))
    dsimp only
    split
    · exact ite_kept (k.holdResult_kept _ _ _ (h4 _)) (h4 _)
    · exact h4 _

theorem endStoreOp_kept (o : StoreOp) (out : StoreOutcome) (data : List Byte) (h : P s) : P (endStoreOp o out data s) := by
  unfold endStoreOp
  split
  · exact k.holdResult_kept o out data h
  · exact k.recomputeTrigger_kept (k.holdResult_kept o out data (ite_kept (k.becomeLocked_kept (k.lu _ h)) (k.lu _ h)))

theorem setStorePhase_kept (ph : StorePhase) (h : P s) : P (setStorePhase ph s) := k.lu _ h

theorem storeStep_kept (o : StoreOp) (data : List Byte) (h : P s) : P (storeStep o data s) := by
  unfold storeStep
  split
  · exact ite_kept (k.setStorePhase_kept _ h) (k.setStorePhase_kept _ h)
  · exact k.endStoreOp_kept o _ _ h
  · exact k.setStorePhase_kept _ h
  · exact k.setStorePhase_kept _ h
  · exact ite_kept (k.setStorePhase_kept _ h) (k.endStoreOp_kept o _ _ h)
  · exact h

/-! ## Service -/

theorem enterServicePending_kept (h : P s) : P (enterServicePending s) := by
  unfold enterServicePending
  exact k.serviceState_kept _ (k.owePark_kept _ (k.stopSelfTest_kept _ (k.abortToCoda_kept _ (k.enterPresentation_kept _ h))))

theorem leaveService_kept (h : P s) : P (leaveService s) := by
  have h1 := k.modFigures_kept (·.leaveService) (k.removeReason_kept .service h)
  unfold leaveService
  refine k.enterPresentation_kept _ (k.serviceState_kept _ (forEach_keeps (fun d s h => ?_) allAxes _ h1))
  exact ite_kept (k.modDoor_kept d _ (k.modDoor_kept d _ h)) h

theorem cancelService_kept (h : P s) : P (cancelService s) :=
  k.enterPresentation_kept _ (k.serviceState_kept _ (k.owePark_kept _ h))

theorem press_kept (h : P s) : P (press s) := by
  unfold press
  split
  iterate 3 exact k.enterServicePending_kept h
  iterate 2 exact k.cancelService_kept h
  · exact ite_kept h (k.leaveService_kept h)
  · exact h

theorem earlyHatch_kept (h : P s) : P (earlyHatch s) := by
  have h1 := k.addReason_kept .service (k.owePark_kept false (k.enterPresentation_kept .service h))
  unfold earlyHatch
  exact k.serviceState_kept _ (k.modFigures_kept _ (k.pe _ (ite_kept (k.abortToIdle_kept _ _ h1) h1)))

theorem openHatch_kept (h : P s) : P (openHatch s) := by
  have h1 : P (s.modSv fun u => { u with hatchOpen := true }) := k.sv rfl h
  unfold openHatch
  dsimp only
  split
  · exact k.serviceState_kept _ (k.addReason_kept _ (k.enterPresentation_kept _ h1))
  · exact h1
  all_goals exact k.earlyHatch_kept h1

/-! ## What follows at once -/

theorem park_kept (h : P s) : P (park s) := k.motion (park_onlyMotion (.refl s)) h

theorem immediate_kept (i : Immediate) (h : P s) : P (i.act s) := by
  unfold Immediate.act
  cases i with
  | motion => exact k.motion (motionPass_onlyMotion (.refl s)) h
  | exclusion => exact k.exclude_kept _ h
  | start => exact k.startPlaying_kept h
  | release => exact k.releaseHold_kept h
  | coda => exact k.enterIdle_kept h
  | selfTest => exact k.endSelfTest_kept h
  | recoveryPark => exact k.park_kept (k.pe _ h)
  | presentationPark => exact k.park_kept (k.owePark_kept false h)
  | serviceReady => exact k.serviceState_kept _ (k.enterPresentation_kept _ h)

end EffectRules

end Sys2Proof.Machine
end

section
/-! SUPPORT. The effects of the events and the answers of the requests keep what `EffectRules` asks for, block by block in the order of the
files named …Effects; and every step keeps it where the link port's own changes and the two resets do (`StepRules`). -/

namespace Sys2Proof.Machine

/-- What a property must be kept by for every step to keep it: the rules of the effects, and any change of the link port, the two resets
and the taking of a command from the queue. -/
structure StepRules (P : State → Prop) : Prop extends EffectRules P where
  lp : ∀ (f : LinkPort → LinkPort) {s : State}, P s → P (s.modLp f)
  softReset : ∀ {s : State}, P s → P (softReset s)
  powerOn : ∀ (b1 b0 : Bool) {s : State}, P s → P (powerOn b1 b0 s)
  pending : ∀ (l : List Instr) {s : State}, P s → P (s.withPending l)

namespace EffectRules

variable {P : State → Prop} {s : State} (k : EffectRules P)
include k

/-! ## The Motion Unit -/

theorem judgeLimit_kept (a : Axis) (h : P s) : P (judgeLimit a s) := k.motion (judgeLimit_onlyMotion a (.refl s)) h

theorem axisFault_kept (n : AxisFaultKind) (a : Axis) (h : P s) : P (axisFault n a s) := k.motion (axisFault_onlyMotion n a (.refl s)) h

theorem doorFault_kept (n : DoorFaultKind) (trip : Option Nat) (d : Axis) (h : P s) : P (countDoorFault d (doorFault n trip d s)) :=
  k.modDoor_kept d _ (k.motion (doorFault_onlyMotion n trip d (.refl s)) h)

theorem moveAxis_kept (p : List Byte) (h : P s) : P (moveAxis p s).state := by
  unfold moveAxis
  dsimp only
  split
  · exact h
  split
  · exact h
  split
  · exact h
  split
  · exact h
  split
  · split
    · exact h
    · exact k.demandDoors_kept _ _ h
  split
  · exact h
  split
  · exact h
  · exact k.motion (give_onlyMotion _ _ (.refl s)) h

theorem homeAxis_kept (p : List Byte) (h : P s) : P (homeAxis p s).state := by
  unfold homeAxis
  split
  · exact h
  split
  · exact h
  split
  · exact h
  split_ifs
  · exact h
  · exact h
  · exact h
  · exact k.motion (requestHome_onlyMotion _ (.refl s)) h

theorem clearFault_kept (p : List Byte) (h : P s) : P (clearFault p s).state := by
  unfold clearFault
  split
  · unfold clearBell
    split
    · exact h
    split
    · exact h
    · exact ite_kept (k.examineStrikes_kept (k.modChan_kept _ _ h)) (k.modChan_kept _ _ h)
  · unfold clearAxis
    split
    · exact h
    split
    · exact k.modDoor_kept _ _ h
    split
    · exact k.modAxis_kept _ _ h
    · exact h
  · exact h

theorem reversalEnd_kept (a : Axis) (h : P s) : P (reversalEnd a s) := by
  unfold reversalEnd
  exact k.modDoor_kept a _ (k.modAxis_kept a _ h)

theorem dwellOver_kept (a : Axis) (h : P s) : P (dwellOver a s) := ite_kept (k.motion (dwellNext_onlyMotion a listFuel (.refl s)) h) h

theorem doorArriveClosed_kept (d : Axis) (h : P s) : P (doorArriveClosed d s) :=
  ite_kept (k.modDoor_kept d _ (k.modDoor_kept d _ h)) h

theorem doorOpenSwitch_kept (d : Axis) (active : Bool) (h : P s) : P (doorOpenSwitch d active s) := by
  unfold doorOpenSwitch
  split
  · exact k.motion (enterOpen_onlyMotion d (.refl _)) (k.modDoor_kept d _ h)
  · exact k.modDoor_kept d _ h
  · exact k.modDoor_kept d _ h
  all_goals exact h

theorem homeSwitchChange_kept (a : Axis) (active : Bool) (h : P s) : P (homeSwitchChange a active s) := by
  have h1 := fun f => k.pins f h
  unfold homeSwitchChange
  exact ite_kept (h1 _) (ite_kept (k.doorArriveClosed_kept a (h1 _))
    (ite_kept (k.motion (endHoming_onlyMotion a (.refl _)) (h1 _)) (h1 _)))

theorem farSwitchChange_kept (a : Axis) (active : Bool) (h : P s) : P (farSwitchChange a active s) := by
  have h1 := fun f => k.pins f h
  unfold farSwitchChange
  exact k.doorOpenSwitch_kept a active (ite_kept (k.judgeLimit_kept a (h1 _)) (h1 _))

theorem doorSwitchChange_kept (d : Axis) (sw : DoorSwitch) (active : Bool) (h : P s) : P (doorSwitchChange d sw active s) := by
  unfold doorSwitchChange
  split
  · exact k.farSwitchChange_kept d active h
  · exact k.homeSwitchChange_kept d active h

theorem alimChange_kept (a : Axis) (active : Bool) (h : P s) : P (alimChange a active s) := by
  unfold alimChange
  exact k.modDoor_kept a _ (k.modAxis_kept a _ (k.pins _ h))

theorem axisOvercurrent_kept (a : Axis) (h : P s) : P (axisOvercurrent a s) := ite_kept (k.axisFault_kept _ a h) h

theorem doorOvercurrent_kept (d : Axis) (h : P s) : P (doorOvercurrent d s) :=
  ite_kept (k.motion (doorOverCurrent_onlyMotion d (.refl s)) h) h

theorem axisStall_kept (a : Axis) (h : P s) : P (axisStall a s) := ite_kept (k.axisFault_kept _ a h) h

theorem travelTimeout_kept (a : Axis) (h : P s) : P (travelTimeout a s) := ite_kept (k.axisFault_kept _ a h) h

theorem axisOffTimeEnd_kept (a : Axis) (h : P s) : P (axisOffTimeEnd a s) := ite_kept (k.modAxis_kept a _ h) h

theorem doorTimeout_kept (d : Axis) (h : P s) : P (doorTimeout d s) := ite_kept (k.doorFault_kept _ _ d h) h

theorem switchLost_kept (d : Axis) (h : P s) : P (switchLost d s) := by
  unfold switchLost
  split
  · exact h
  · exact ite_kept (k.doorFault_kept _ _ d h) h

theorem doorOffTimeEnd_kept (d : Axis) (h : P s) : P (doorOffTimeEnd d s) := ite_kept (k.modDoor_kept d _ h) h

/-! ## The Performance Engine -/

theorem preparationLimit_kept (h : P s) : P (preparationLimit s) := ite_kept (k.startPlaying_kept h) h

theorem divisionInstant_kept (h : P s) : P (divisionInstant s) := by
  unfold divisionInstant
  split
  · exact h
  · exact ite_kept (k.runEvents_kept (k.modSynth_kept _ h)) h

theorem waitLimitExpiry_kept (h : P s) : P (waitLimitExpiry s) := by
  unfold waitLimitExpiry
  split
  · exact ite_kept (k.releaseHold_kept (k.modPerf_kept _ h)) h
  all_goals exact h

theorem stallTimeout_kept (h : P s) : P (stallTimeout s) := by
  unfold stallTimeout
  split
  · exact ite_kept (k.enterCoda_kept _ h) h
  all_goals exact h

theorem codaTimeout_kept (h : P s) : P (codaTimeout s) := by
  unfold codaTimeout
  split
  · exact ite_kept (k.enterIdle_kept (k.modPerf_kept _ h)) h
  · exact h

theorem supplyTimerExpiry_kept (h : P s) : P (supplyTimerExpiry s) := ite_kept (k.abortToIdle_kept _ _ h) h

theorem thermalTimerExpiry_kept (h : P s) : P (thermalTimerExpiry s) := ite_kept (k.abortToIdle_kept _ _ h) h

theorem fillRing_kept (a : Nat) (data : List Byte) (h : P s) : P (fillRing a data s) := by
  unfold fillRing
  split
  iterate 2 exact k.requestReads_kept (k.pe _ h)
  all_goals exact h

theorem prefetchReadEnd_kept (data : List Byte) (h : P s) : P (prefetchReadEnd data s) := by
  have h1 := k.freePort_kept h
  unfold prefetchReadEnd
  split
  · exact h
  · dsimp only
    split
    · exact k.grantPort_kept (ite_kept h1 (k.fillRing_kept _ _ h1))
    all_goals exact k.grantPort_kept h1

theorem beginSelfTest_kept (h : P s) : P (beginSelfTest s) := k.pe _ h

theorem selfTest_kept (p : List Byte) (h : P s) : P (selfTest p s).state := by
  unfold selfTest
  split
  · exact h
  split
  · exact h
  split
  iterate 3 exact h
  all_goals
    split
    · exact h
    · exact k.beginSelfTest_kept h

theorem selfTestHandoff_kept (h : P s) : P (selfTestHandoff s) := by
  unfold selfTestHandoff
  split
  · exact h
  · exact ite_kept (k.handOver_kept _ _ h) h

/-! ## The Schedule Unit -/

theorem setSeason_kept (p : List Byte) (h : P s) : P (setSeason p s).state := by
  unfold setSeason
  dsimp only
  split
  · exact k.recomputeTrigger_kept (k.evaluateSeason_kept (k.su rfl h))
  · exact h

theorem setHour_kept (p : List Byte) (h : P s) : P (setHour p s).state := by
  unfold setHour
  split
  · split
    · exact h
    · exact k.recomputeTrigger_kept (k.su rfl h)
  · exact h

/-- A PLAY_SHOW joins a queue with room while the part presents (R36). -/
theorem playShow_kept (p : List Byte) (h : P s) : P (playShow p s).state := by
  unfold playShow
  split
  · exact h
  split
  · exact h
  next hp =>
  split
  · exact h
  split
  · exact h
  split
  · exact h
  split
  · exact h
  next hn =>
  exact k.examineNewHead_kept s (k.modCounters_kept _ (k.queue (by simpa using hp) (fun _ => append_one_length_le (not_le.mp hn) _) h))

theorem stopShow_kept (p : List Byte) (h : P s) : P (stopShow p s).state := by
  have h1 : P (stopEngine s) := k.stopSelfTest_kept _ (k.abortToCoda_kept _ h)
  unfold stopShow
  dsimp only
  split
  · exact k.flush h1
  · exact h1

/-! ## The Library Unit -/

theorem takeStoreOp_kept (o : StoreOp) (h : P s) : P (takeStoreOp o s) := k.lu _ h

theorem storeRead_kept (p : List Byte) (h : P s) : P (storeRead p s).state := by
  unfold storeRead
  dsimp only
  split_ifs
  · exact h
  · exact k.takeStoreOp_kept _ h
  · exact h

theorem storeWrite_kept (p : List Byte) (h : P s) : P (storeWrite p s).state := by
  unfold storeWrite
  dsimp only
  split_ifs
  · exact h
  · exact h
  · exact k.takeStoreOp_kept _ h
  · exact h

theorem storeErase_kept (p : List Byte) (h : P s) : P (storeErase p s).state := by
  unfold storeErase
  dsimp only
  split_ifs
  · exact h
  · exact h
  · exact k.takeStoreOp_kept _ h
  · exact h

theorem startWalk_kept (h : P s) : P (startWalk s) := by
  unfold startWalk emptyTables
  exact k.su rfl (k.lu _ h)

theorem rescan_kept (p : List Byte) (h : P s) : P (rescan p s).state := by
  have h1 := fun o => k.startWalk_kept (k.takeStoreOp_kept o h)
  unfold rescan
  split_ifs
  · exact h
  · exact h
  · exact k.grantPort_kept (k.recomputeTrigger_kept (ite_kept (k.becomeLocked_kept (h1 _)) (h1 _)))

theorem walkTransferEnd_kept (data : List Byte) (h : P s) : P (walkTransferEnd data s) := by
  have h1 := k.freePort_kept h
  unfold walkTransferEnd
  split
  · next u w _ _ =>
    have h2 : P (if u.transfer = w.phase.transfer then walkStep w.phase data (freePort s) else (freePort s, none)).1 := by
      split
      · exact k.walkStep_kept _ _ h1
      · exact h1
    refine k.grantPort_kept ?_
    split
    · exact k.endWalk_kept _ (k.recomputeTrigger_kept h2)
    · exact k.recomputeTrigger_kept h2
  · exact h

theorem walkStatusTimeout_kept (h : P s) : P (walkStatusTimeout s) := by
  unfold walkStatusTimeout
  split
  · exact h
  split
  · exact ite_kept (k.grantPort_kept (k.modWalk_kept _ h)) h
  all_goals exact h

theorem storeTransferEnd_kept (data : List Byte) (h : P s) : P (storeTransferEnd data s) := by
  have h1 := k.freePort_kept h
  unfold storeTransferEnd
  split
  · exact h
  · refine k.grantPort_kept ?_
    split
    · exact ite_kept h1 (k.storeStep_kept _ _ h1)
    · exact h1

theorem storeBusyTimeout_kept (h : P s) : P (storeBusyTimeout s) := by
  unfold storeBusyTimeout
  split
  · exact h
  split
  · exact ite_kept (k.endStoreOp_kept _ _ _ h) h
  all_goals exact h

theorem changeTimeout_kept (n : StoreKind) (limit : Nat) (h : P s) : P (changeTimeout n limit s) := by
  unfold changeTimeout
  split
  · exact h
  split
  · exact ite_kept (k.endStoreOp_kept _ _ _ h) h
  all_goals exact h

/-! ## The Strike Unit -/

theorem strikeTest_kept (p : List Byte) (h : P s) : P (strikeTest p s).state := by
  unfold strikeTest
  dsimp only
  split
  · exact h
  split
  · exact h
  split
  · exact h
  split
  · exact h
  split
  · exact h
  · exact k.strikes (strikeArrives_onlyStrikes _ (.refl s)) h

theorem counterSelect_kept (p : List Byte) (h : P s) : P (counterSelect p s).state := by
  unfold counterSelect
  dsimp only
  split
  · dsimp only
    exact k.modSt_kept _ h
  · exact h

theorem counterSnapshot_kept (p : List Byte) (h : P s) : P (counterSnapshot p s).state := ite_kept (k.modSt_kept _ h) h

theorem strikeHeadDue_kept (h : P s) : P (strikeHeadDue s) := ite_kept (k.examineStrikes_kept h) h

theorem slackExpiry_kept (h : P s) : P (slackExpiry s) := ite_kept (k.examineStrikes_kept h) h

theorem openCoil_kept (b : Bell) (h : P s) : P (openCoil b s) := k.strikes (openCoil_onlyStrikes b (.refl s)) h

theorem pulseEnd_kept (b : Bell) (h : P s) : P (pulseEnd b s) :=
  ite_kept (ite_kept (k.strikes (endPulseClean_onlyStrikes b (.refl s)) h) (k.openCoil_kept b h)) h

theorem recoveryEnd_kept (b : Bell) (h : P s) : P (recoveryEnd b s) := ite_kept (k.strikes (endRecovery_onlyStrikes b (.refl s)) h) h

theorem hlimChange_kept (b : Bell) (active : Bool) (h : P s) : P (hlimChange b active s) := by
  have h1 := fun f => k.pins f h
  unfold hlimChange
  exact ite_kept (k.modChan_kept b _ (h1 _)) (h1 _)

theorem hprsChange_kept (b : Bell) (active : Bool) (h : P s) : P (hprsChange b active s) := by
  have h1 := fun f => k.pins f h
  unfold hprsChange
  exact ite_kept (k.modChan_kept b _ (h1 _)) (h1 _)

theorem overCurrent_kept (b : Bell) (h : P s) : P (overCurrent b s) := ite_kept (k.strikes (bellOverCurrent_onlyStrikes b (.refl s)) h) h

theorem presenceDeadline_kept (b : Bell) (h : P s) : P (presenceDeadline b s) :=
  ite_kept (ite_kept (k.modChan_kept b _ h) (k.openCoil_kept b h)) h

theorem bellOffTimeEnd_kept (b : Bell) (h : P s) : P (bellOffTimeEnd b s) := ite_kept (k.examineStrikes_kept (k.modChan_kept b _ h)) h

theorem decayTick_kept (h : P s) : P (decayTick s) :=
  ite_kept (k.strikes (reportWarm_onlyStrikes (forEach_onlyStrikes (fun b _ => decayBell_onlyStrikes b) allBells (.refl s))) h) h

theorem damperEnd_kept (b : Bell) (h : P s) : P (damperEnd b s) := ite_kept (k.modChan_kept b _ h) h

theorem verifyWindowEnd_kept (b : Bell) (h : P s) : P (verifyWindowEnd b s) := by
  unfold verifyWindowEnd
  split
  · exact ite_kept (ite_kept (k.modChan_kept b _ h) (k.strikes (verdict_onlyStrikes b _ (.refl s)) h)) h
  all_goals exact h

/-! ## The Supervision Unit -/

theorem setPlaying_kept (p : Presentation) (h : P s) : P (setPlaying p s) := by
  have h1 := k.putReason_kept .operator (p == .quiet) h
  exact k.enterPresentation_kept p (ite_kept (k.owePark_kept false h1) h1)

theorem setStill_kept (h : P s) : P (setStill s) := ite_kept h (k.owePark_kept true (k.enterPresentation_kept .still h))

theorem setState_kept (p : List Byte) (h : P s) : P (setState p s).state := by
  unfold setState
  split
  iterate 4 exact h
  all_goals
    split
    · exact h
    · exact k.setStill_kept h
    · exact k.setPlaying_kept _ h

theorem serviceRequest_kept (p : List Byte) (h : P s) : P (serviceRequest p s).state := by
  unfold serviceRequest
  split
  iterate 3 exact k.enterServicePending_kept h
  all_goals exact h

theorem resumeRequest_kept (p : List Byte) (h : P s) : P (resumeRequest p s).state := by
  unfold resumeRequest
  split
  iterate 2 exact k.cancelService_kept h
  · split
    · exact h
    · exact k.leaveService_kept h
  all_goals exact h

theorem serviceReqChange_kept (active : Bool) (h : P s) : P (serviceReqChange active s) := ite_kept h (k.sv rfl (k.pins _ h))

theorem servicePress_kept (h : P s) : P (servicePress s) := ite_kept (k.press_kept (k.sv rfl h)) h

theorem hatchShowsOpen_kept (h : P s) : P (hatchShowsOpen s) := by
  unfold hatchShowsOpen
  exact ite_kept (k.sv rfl (k.pins _ h)) (k.openHatch_kept (k.sv rfl (k.pins _ h)))

theorem hatchShowsClosed_kept (h : P s) : P (hatchShowsClosed s) := by
  unfold hatchShowsClosed
  exact ite_kept (k.sv rfl (k.pins _ h)) (k.pins _ h)

theorem hatchCloses_kept (h : P s) : P (hatchCloses s) := by
  unfold hatchCloses
  split
  · exact h
  · exact ite_kept (k.sv rfl h) h

theorem codeBit_kept (high : Bool) (h : P s) : P (codeBit high s) := ite_kept (k.sv rfl h) h

theorem restartCodes_kept (hush : Byte) (hushLen : Nat) (release : Byte) (releaseLen : Nat) (m : CodeMode) (h : P s) :
    P (restartCodes hush hushLen release releaseLen m s) := by
  unfold restartCodes
  cases m with
  | manual => exact k.removeReason_kept .hush (k.reportCodes_kept (k.sv rfl h))
  | auto => exact k.reportCodes_kept (k.sv rfl h)

theorem setCodes_kept (p : List Byte) (h : P s) : P (setCodes p s).state := by
  unfold setCodes
  dsimp only
  split
  · exact h
  split
  · exact k.restartCodes_kept _ _ _ _ _ h
  · exact h

/-! ## The Time Base -/

theorem setTime_kept (p : List Byte) (h : P s) : P (setTime p s).state := by
  unfold setTime
  dsimp only
  split
  · exact k.offerStep_kept _ _ h
  · exact h

theorem wallSecond_kept (h : P s) : P (wallSecond s) := by
  have h1 : P (calendarWrap s (s.modTb TimeBase.beginSecond)) := ite_kept (k.setRecord_kept _ (k.tb _ h)) (k.tb _ h)
  exact ite_kept (ite_kept h1 (k.evaluateSeason_kept h1)) h

theorem holdOver_kept (h : P s) : P (holdOver s) := by
  unfold holdOver
  split
  · exact h
  · exact ite_kept (k.tb _ h) h

theorem actOnOffset_kept (offset : Int) (h : P s) : P (actOnOffset offset s) :=
  ite_kept (k.tb _ h) (k.offerStep_kept _ _ (k.tb _ h))

theorem ppsEdge_kept (h : P s) : P (ppsEdge s) := by
  have h1 := fun f => k.setLevel_kept .ppsLost false (k.tb f h)
  unfold ppsEdge
  exact ite_kept (k.actOnOffset_kept _ (h1 _)) (h1 _)

theorem ppsLost_kept (h : P s) : P (ppsLost s) := by
  unfold ppsLost
  split
  · exact h
  · exact ite_kept (k.setLevel_kept _ _ (k.tb _ h)) h

end EffectRules

/-! ## Commands -/

/-- The outcome is a next state that has the property. -/
def Gives (P : State → Prop) (o : Host.Outcome State Fault Refusal) : Prop := ∃ t, o = .next t ∧ P t

namespace StepRules

variable {P : State → Prop} {s : State} (k : StepRules P)
include k

/-- The requests that read leave the state, and every other answer keeps the property. -/
theorem answerOf_kept (r : Request) (h : P s) : P (answerOf r s).state := by
  have hseason : P (getSeason r.payload s).state := by unfold getSeason; split <;> exact h
  have hhour : P (getHour r.payload s).state := by unfold getHour; split <;> exact h
  have hbell : P (getBell r.payload s).state := by unfold getBell; split <;> exact h
  have hlog : P (readLog r.payload s).state := by unfold readLog; split <;> exact h
  have haxis : P (getAxis r.payload s).state := by unfold getAxis; split <;> exact h
  have hdoor : P (getDoor r.payload s).state := by unfold getDoor; split <;> exact h
  have hresult : P (storeResult r.payload s).state := by unfold storeResult; split <;> exact h
  refine answerOf_keeps (P := fun a => P a.state) r s ?_ h
  simp only [List.forall_mem_cons]
  exact ⟨h, h, k.setTime_kept _ h, h, k.setSeason_kept _ h, hseason, k.setHour_kept _ h, hhour, k.playShow_kept _ h, k.stopShow_kept _ h, h,
    k.setState_kept _ h, k.serviceRequest_kept _ h, k.resumeRequest_kept _ h, k.setCodes_kept _ h, k.strikeTest_kept _ h,
    k.selfTest_kept _ h, h, hbell, k.counterSelect_kept _ h, k.counterSnapshot_kept _ h, hlog, k.moveAxis_kept _ h, k.homeAxis_kept _ h,
    k.clearFault_kept _ h, haxis, hdoor, k.storeRead_kept _ h, k.storeWrite_kept _ h, k.storeErase_kept _ h, hresult, k.rescan_kept _ h, h,
    k.lp _ h, h, List.forall_mem_nil _⟩

theorem linkError_kept (h : P s) : P (linkError s) := k.raise_kept _ (k.lp _ h)

theorem frameReceived_kept (h : P s) : P (frameReceived s) := by
  unfold frameReceived
  split
  · exact h
  · exact ite_kept (receive_keeps (P := P) (fun f _ => k.lp f) _ (k.lp _ h)) h

theorem badFrame_kept (framing : Bool) (h : P s) : P (badFrame framing s) := by
  unfold badFrame
  split
  · exact h
  · exact ite_kept (k.linkError_kept (k.lp _ h)) h

theorem frameGap_kept (h : P s) : P (frameGap s) := by
  unfold frameGap
  split
  · exact h
  · exact ite_kept (k.linkError_kept (k.lp _ h)) h

theorem byteReceived_kept (b : Byte) (h : P s) : P (byteReceived b s) := by
  unfold byteReceived
  split
  · exact ite_kept (k.lp _ h) h
  · exact k.lp _ h

theorem transmitEnd_kept (h : P s) : P (transmitEnd s) := ite_kept (k.softReset h) (k.lp _ h)

theorem serve_kept (h : P s) : P (serve s) :=
  serveFor_keeps (P := P)
    (fun r _ => take_keeps (P := P) (fun i _ _ => k.immediate_kept i) (fun f _ => k.lp f) (fun r _ => k.answerOf_kept r) r) _ s h

theorem event_gives (dt : Nat) {effect : State → State} (he : ∀ {t}, P t → P (effect t)) (h : P s) : Gives P (event dt effect s) :=
  ⟨_, rfl, finish_keeps (P := P) (fun i _ _ => k.immediate_kept i) (fun f _ => k.lp f) (fun r _ => k.answerOf_kept r)
    (he (k.tb _ h))⟩

theorem linkEvent_gives (dt : Nat) {effect : State → State} (he : ∀ {t}, P t → P (effect t)) (h : P s) :
    Gives P (linkEvent dt effect s) :=
  ⟨_, rfl, k.serve_kept (arbitrate_keeps (P := P) (fun f _ => k.lp f) (he (k.tb _ h)))⟩

theorem hostRequest_gives (dt : Nat) (kind tag : Byte) (p : List Byte) (h : P s) : Gives P (hostRequest dt kind tag p s) :=
  k.linkEvent_gives dt (receive_keeps (P := P) (fun f _ => k.lp f) _) h

/-- An event whose effect stands under a condition. -/
theorem eventIf_gives (dt : Nat) {c : State → Prop} [DecidablePred c] {effect : State → State} (he : ∀ {t}, P t → P (effect t))
    (h : P s) : Gives P (event dt (fun t => if c t then effect t else t) s) :=
  k.event_gives dt (fun h => ite_kept (he h) h) h

/-- Every command is one form of a meaning over one effect, or the power-on reset. -/
theorem exec_gives (c : Instr) (h : P s) : Gives P (exec c s) := by
  cases c with
  | powerOnReset b1 b0 => exact ⟨_, rfl, k.powerOn b1 b0 h⟩
  | softReset | ident | getStatus | setTime | getTime | setSeason | getSeason | setHour | getHour | playShow | stopShow | getQueue
  | setState | service | resume | setCodes | strikeTest | selfTest | getSelfTest | getBell | counterSelect | counterSnapshot | readLog
  | moveAxis | homeAxis | clearFaultBell | clearFaultAxis | getAxis | getDoor | storeRead | storeWrite | storeErase | storeResult
  | rescan | getWalkReport | setNoticeMask => exact k.hostRequest_gives _ _ _ _ h
  | unknownKind dt kind tag p =>
    exact ite_kept (P := Gives P) (k.linkEvent_gives dt (effect := id) id h) (k.hostRequest_gives dt kind tag p h)
  | frameReceived => exact k.linkEvent_gives _ k.frameReceived_kept h
  | badFrame => exact k.linkEvent_gives _ (k.badFrame_kept _) h
  | frameGapTimeout => exact k.linkEvent_gives _ k.frameGap_kept h
  | byteReceived => exact k.linkEvent_gives _ (k.byteReceived_kept _) h
  | softResetInstant dt => exact k.eventIf_gives dt (c := (sendingSoftResetReply ·)) k.softReset h
  | transmitEnd => exact k.event_gives _ k.transmitEnd_kept h
  | wallSecondStart => exact k.event_gives _ k.wallSecond_kept h
  | slewHoldEnd => exact k.event_gives _ k.holdOver_kept h
  | ppsEdge => exact k.event_gives _ k.ppsEdge_kept h
  | ppsLossTimeout => exact k.event_gives _ k.ppsLost_kept h
  | nextTriggerHandled => exact k.event_gives _ k.nextTriggerHandled_kept h
  | heldLinkHeadDue dt => exact k.eventIf_gives dt (c := (heldHeadDue ·)) k.examineQueue_kept h
  | dueCountReached dt => exact k.eventIf_gives dt (c := (mayStart ·)) k.startPlaying_kept h
  | preparationLimit => exact k.event_gives _ k.preparationLimit_kept h
  | divisionInstant => exact k.event_gives _ k.divisionInstant_kept h
  | waitLimitExpiry => exact k.event_gives _ k.waitLimitExpiry_kept h
  | prefetchReadEnd => exact k.event_gives _ (k.prefetchReadEnd_kept _) h
  | stallTimeout => exact k.event_gives _ k.stallTimeout_kept h
  | codaTimeout => exact k.event_gives _ k.codaTimeout_kept h
  | supplyTimerExpiry => exact k.event_gives _ k.supplyTimerExpiry_kept h
  | thermalTimerExpiry => exact k.event_gives _ k.thermalTimerExpiry_kept h
  | selfTestHandoff => exact k.event_gives _ k.selfTestHandoff_kept h
  | walkTransferEnd => exact k.event_gives _ (k.walkTransferEnd_kept _) h
  | walkStatusTimeout => exact k.event_gives _ k.walkStatusTimeout_kept h
  | storeTransferEnd => exact k.event_gives _ (k.storeTransferEnd_kept _) h
  | storeBusyTimeout => exact k.event_gives _ k.storeBusyTimeout_kept h
  | writeTimeout | eraseTimeout => exact k.event_gives _ (k.changeTimeout_kept _ _) h
  | strikeHeadDue => exact k.event_gives _ k.strikeHeadDue_kept h
  | slackExpiry => exact k.event_gives _ k.slackExpiry_kept h
  | pulseEnd _ b => exact k.event_gives _ (k.pulseEnd_kept b) h
  | recoveryEnd _ b => exact k.event_gives _ (k.recoveryEnd_kept b) h
  | hlimChange _ b => exact k.event_gives _ (k.hlimChange_kept b _) h
  | hprsActive _ b => exact k.event_gives _ (k.hprsChange_kept b _) h
  | overCurrent _ b => exact k.event_gives _ (k.overCurrent_kept b) h
  | presenceDeadline _ b => exact k.event_gives _ (k.presenceDeadline_kept b) h
  | bellOffTimeEnd _ b => exact k.event_gives _ (k.bellOffTimeEnd_kept b) h
  | decayTick => exact k.event_gives _ k.decayTick_kept h
  | dampEnd _ b => exact k.event_gives _ (k.damperEnd_kept b) h
  | pickupEdge _ b => exact k.event_gives _ (k.modChan_kept b _) h
  | verifyWindowEnd _ b => exact k.event_gives _ (k.verifyWindowEnd_kept b) h
  | axisCount _ a => exact k.event_gives _ (fun {t} => k.motion (countAxis_onlyMotion a (.refl t))) h
  | reversalEnd _ a => exact k.event_gives _ (k.reversalEnd_kept a) h
  | dwellEnd _ a => exact k.event_gives _ (k.dwellOver_kept a) h
  | homeSwitchChange _ a => exact k.event_gives _ (k.homeSwitchChange_kept a _) h
  | farSwitchActive _ a => exact k.event_gives _ (k.farSwitchChange_kept a _) h
  | alimChange _ a => exact k.event_gives _ (k.alimChange_kept a _) h
  | axisStall _ a => exact k.event_gives _ (k.axisStall_kept a) h
  | travelTimeout _ a => exact k.event_gives _ (k.travelTimeout_kept a) h
  | axisOvercurrent _ a => exact k.event_gives _ (k.axisOvercurrent_kept a) h
  | axisOffTimeEnd _ a => exact k.event_gives _ (k.axisOffTimeEnd_kept a) h
  | doorSwitchChange _ d => exact k.event_gives _ (k.doorSwitchChange_kept d _ _) h
  | doorTimeout _ d => exact k.event_gives _ (k.doorTimeout_kept d) h
  | doorOvercurrent _ d => exact k.event_gives _ (k.doorOvercurrent_kept d) h
  | switchLost _ d => exact k.event_gives _ (k.switchLost_kept d) h
  | doorOffTimeEnd _ d => exact k.event_gives _ (k.doorOffTimeEnd_kept d) h
  | servicePress => exact k.event_gives _ k.servicePress_kept h
  | lampToggle => exact k.event_gives _ (k.setLamp_kept _) h
  | hatchOpening => exact k.event_gives _ k.hatchShowsOpen_kept h
  | hatchClosed => exact k.event_gives _ k.hatchCloses_kept h
  | hatchShowsClosed => exact k.event_gives _ k.hatchShowsClosed_kept h
  | supplySample dt => exact k.eventIf_gives dt (c := (·.now % 1000 = 0)) (k.takeSample_kept _) h
  | dieReading dt => exact k.eventIf_gives dt (c := (·.now % 10000 = 0)) (k.takeDieReading_kept _) h
  | codeBlockEnd dt => exact k.eventIf_gives dt (c := fun t => t.sv.hushCode.blockOver || t.sv.releaseCode.blockOver) k.endBlocks_kept h
  | codeBit => exact k.event_gives _ (k.codeBit_kept _) h
  | serviceReqChange => exact k.event_gives _ (k.serviceReqChange_kept _) h

/-- One step keeps the property (log entry 1). -/
theorem step_kept {t : State} (h : P s) (hs : step s = .next t) : P t := by
  unfold step at hs
  split at hs
  · cases hs
    exact k.tb _ h
  · next c rest _ =>
    obtain ⟨v, hv, hP⟩ := k.exec_gives c (k.pending rest h)
    cases hv.symm.trans hs
    exact hP

end StepRules

end Sys2Proof.Machine
end

section
/-! SUPPORT. The show queue holds at most 4 requests, and none outside RUN and QUIET (R35). -/

namespace Sys2Proof.Machine

/-- Only the queue and the presentation state matter. -/
theorem QueueSafe.same {s t : State} (h : QueueSafe s) (hq : t.su.queue = s.su.queue) (hp : t.sv.presentation = s.sv.presentation) :
    QueueSafe t := by
  have hpres : t.presenting = s.presenting := by simp only [State.presenting, hp]
  exact ⟨hq ▸ h.bound, fun hn => hq.trans (h.closed (hpres ▸ hn))⟩

/-- An empty queue is safe in every state. -/
theorem QueueSafe.of_empty {s : State} (h : s.su.queue = []) : QueueSafe s := ⟨by simp [h], fun _ => h⟩

/-- Every rule leaves the queue and the presentation state, bounds the queue while the part presents, or empties it. -/
theorem queueSafe_stepRules : StepRules QueueSafe where
  strikes g h := h.same (by rw [g.su]) (by rw [g.sv])
  motion g h := h.same (by rw [g.su]) (by rw [g.sv])
  tb _ _ h := h.same rfl rfl
  lu _ _ h := h.same rfl rfl
  pe _ _ h := h.same rfl rfl
  pins _ _ h := h.same rfl rfl
  su hf h := h.same hf rfl
  sv hf h := h.same rfl hf
  notices _ h := h.same rfl rfl
  queue hp hq h := ⟨hq h.bound, fun hn => absurd (hp.symm.trans hn) (by simp)⟩
  flush _ := .of_empty rfl
  present hp h := ⟨h.bound, fun hn => absurd (hp.symm.trans hn) (by simp)⟩
  withdraw _ _ _ := .of_empty rfl
  lp _ _ h := h.same rfl rfl
  softReset {s} _ := .of_empty (by unfold softReset; dsimp only; split <;> rfl)
  powerOn _ _ _ _ := .of_empty rfl
  pending _ _ h := h.same rfl rfl

/-- Settles O58: the rules of `queueSafe_stepRules`, and the passage over a step. -/
theorem everyStepKeepsQueueSafe : Obligations.EveryStepKeepsQueueSafe := fun _ _ h hs => queueSafe_stepRules.step_kept h hs

end Sys2Proof.Machine
end

section
/-! SUPPORT. Which entry of the season table gives a date its season and programme (R21). -/

namespace Sys2Proof.Machine

/-! ## The range of an entry -/

/-- A (month, day) pair stands before another: months first, then days (R21). -/
def PairBefore (a b : Nat × Nat) : Prop := a.1 < b.1 ∨ a.1 = b.1 ∧ a.2 < b.2

theorem notAfter_iff_not_before (a b : Nat × Nat) : notAfter a b = true ↔ ¬ PairBefore b a := by
  rw [notAfter_iff, PairBefore]
  omega

/-- A pair at or after another and at or before it is the same pair. -/
theorem eq_of_not_before {a b : Nat × Nat} (h : ¬ PairBefore a b) (h' : ¬ PairBefore b a) : a = b := by
  unfold PairBefore at h h'
  exact Prod.ext (by omega) (by omega)

theorem not_before_self (a : Nat × Nat) : ¬ PairBefore a a := by
  unfold PairBefore
  omega

/-- A pair lies in the range from `a` to `z`, which wraps across the new year where `z` stands before `a` (R21). -/
def InRange (a z p : Nat × Nat) : Prop :=
  (PairBefore z a → ¬ PairBefore p a ∨ ¬ PairBefore z p) ∧ (¬ PairBefore z a → ¬ PairBefore p a ∧ ¬ PairBefore z p)

/-- A range of one day holds that day. -/
theorem inRange_of_one_day {a z : Nat × Nat} (h : a = z) (p : Nat × Nat) : InRange a z p ↔ p = a := by
  subst h
  constructor
  · rintro ⟨-, h⟩
    obtain ⟨h1, h2⟩ := h (not_before_self a)
    exact eq_of_not_before h1 h2
  · rintro rfl
    exact ⟨fun h => absurd h (not_before_self p), fun h => ⟨h, h⟩⟩

/-- What an entry covers is its range, wrapped or not. -/
theorem SeasonEntry.covers_iff (e : SeasonEntry) (p : Nat × Nat) :
    e.covers p = true ↔ InRange (e.startMonth, e.startDay) (e.endMonth, e.endDay) p := by
  unfold SeasonEntry.covers InRange
  dsimp only
  split
  · next h =>
    rw [notAfter_iff_not_before] at h
    simp [notAfter_iff_not_before, h]
  · next h =>
    rw [notAfter_iff_not_before, not_not] at h
    simp [notAfter_iff_not_before, h]

theorem SeasonEntry.matchesDay_iff (e : SeasonEntry) (d : Nat) :
    e.matchesDay d = true ↔ e.enabled = true ∧ e.weekdays.getLsbD (weekdayOf d) = true ∧
      InRange (e.startMonth, e.startDay) (e.endMonth, e.endDay) (monthDayOf d) := by
  rw [← e.covers_iff, SeasonEntry.matchesDay, Bool.and_eq_true_iff, Bool.and_eq_true_iff, and_assoc]

/-- An empty weekday set holds no weekday. -/
theorem SeasonEntry.matchesDay_of_no_weekday {e : SeasonEntry} (h : e.weekdays = 0) (d : Nat) : e.matchesDay d = false := by
  simp [SeasonEntry.matchesDay, h]

/-! ## 29 February -/

/-- A day number lies within its year, past the calendar's span too. -/
theorem dayOfYear_lt (d : Nat) : dayOfYear d < (monthLengths (yearOfDay d)).sum := by
  rw [monthLengths_sum]
  unfold dayOfYear yearOfDay
  split <;> split <;> omega

/-- A day of February past the 28th is one of a leap year: the month found has that many days. -/
theorem leap_of_29_february {d : Nat} (h : monthDayOf d = (2, 29)) : yearOfDay d % 4 = 0 := by
  obtain ⟨i, -, hm, -, hday, -⟩ := monthAndDay_spec _ 1 _ (dayOfYear_lt d)
  rw [show monthAndDay _ 1 _ = (2, 29) from h] at hm hday
  obtain rfl : i = 1 := by simp at hm; omega
  by_contra hn
  simp [monthLengths, hn] at hday

/-! ## The choice among matching entries -/

/-- An entry is preferred to the best one found before it where its priority is higher (R21). -/
def Outranks (e : SeasonEntry) (best : Option (Nat × SeasonEntry)) : Prop := ∀ k b, best = some (k, b) → b.priority < e.priority

/-- One entry of the search: it becomes the best where it matches and outranks the best so far. -/
theorem bestSeason_cons_of_better {e : SeasonEntry} {d : Nat} {best : Option (Nat × SeasonEntry)} (hm : e.matchesDay d = true)
    (ho : Outranks e best) (rest : List SeasonEntry) (n : Nat) :
    bestSeason d (e :: rest) n best = bestSeason d rest (n + 1) (some (n, e)) := by
  cases best with
  | none => simp [bestSeason, hm]
  | some kb => simp [bestSeason, hm, ho kb.1 kb.2 rfl]

theorem bestSeason_cons_of_not_better {e : SeasonEntry} {d : Nat} {best : Option (Nat × SeasonEntry)}
    (hn : ¬ (e.matchesDay d = true ∧ Outranks e best)) (rest : List SeasonEntry) (n : Nat) :
    bestSeason d (e :: rest) n best = bestSeason d rest (n + 1) best := by
  cases hm : e.matchesDay d with
  | false => simp [bestSeason, hm]
  | true =>
    cases best with
    | none => exact absurd ⟨hm, fun _ _ h => by cases h⟩ hn
    | some kb =>
      have hle : ¬ kb.2.priority < e.priority := fun hlt => hn ⟨hm, fun _ _ h => by cases h; exact hlt⟩
      simp [bestSeason, hm, hle]

/-- Where no entry left matches and outranks the best one, it stays. -/
theorem bestSeason_stays {d : Nat} {best : Option (Nat × SeasonEntry)} : ∀ (l : List SeasonEntry) (n : Nat),
    (∀ e ∈ l, ¬ (e.matchesDay d = true ∧ Outranks e best)) → bestSeason d l n best = best
  | [], _, _ => rfl
  | e :: rest, n, h => by
    rw [bestSeason_cons_of_not_better (h e (by simp))]
    exact bestSeason_stays rest (n + 1) fun f hf => h f (by simp [hf])

/-- A matching entry that outranks the best so far, no entry before it reaches and no entry after it passes is found (R21). -/
theorem bestSeason_finds {d : Nat} {e : SeasonEntry} (hm : e.matchesDay d = true) :
    ∀ (l : List SeasonEntry) (n i : Nat) (best : Option (Nat × SeasonEntry)), l[i]? = some e → Outranks e best →
      (∀ (j : Nat) (f : SeasonEntry), l[j]? = some f → f.matchesDay d = true →
        f.priority < e.priority ∨ f.priority = e.priority ∧ i ≤ j) →
      bestSeason d l n best = some (n + i, e)
  | [], _, _, _, hi, _, _ => by simp at hi
  | x :: rest, n, 0, best, hi, ho, hall => by
    obtain rfl : x = e := by simpa using hi
    rw [bestSeason_cons_of_better hm ho]
    refine bestSeason_stays rest (n + 1) fun f hf ⟨hfm, hfo⟩ => ?_
    obtain ⟨j, hj⟩ := List.mem_iff_getElem?.mp hf
    have hlt := hfo n x rfl
    have hle := hall (j + 1) f (by simpa using hj) hfm
    omega
  | x :: rest, n, i + 1, best, hi, ho, hall => by
    have hrest : ∀ (j : Nat) (f : SeasonEntry), rest[j]? = some f → f.matchesDay d = true →
        f.priority < e.priority ∨ f.priority = e.priority ∧ i ≤ j := by
      intro j f hj hf
      have := hall (j + 1) f (by simpa using hj) hf
      omega
    have hi' : rest[i]? = some e := by simpa using hi
    rw [show n + (i + 1) = n + 1 + i by omega]
    by_cases hb : x.matchesDay d = true ∧ Outranks x best
    · have hx : x.priority < e.priority := by
        have := hall 0 x (by simp) hb.1
        omega
      rw [bestSeason_cons_of_better hb.1 hb.2]
      exact bestSeason_finds hm rest (n + 1) i _ hi' (fun _ _ h => by cases h; exact hx) hrest
    · rw [bestSeason_cons_of_not_better hb]
      exact bestSeason_finds hm rest (n + 1) i best hi' ho hrest

theorem seasonOfDay_of_best {s : State} {d i : Nat} {e : SeasonEntry} (hi : s.su.seasons[i]? = some e) (hm : e.matchesDay d = true)
    (hall : ∀ (j : Nat) (f : SeasonEntry), s.su.seasons[j]? = some f → f.matchesDay d = true →
      f.priority < e.priority ∨ f.priority = e.priority ∧ i ≤ j) : seasonOfDay s d = (some i, e.programme) := by
  have hfind := bestSeason_finds hm s.su.seasons.toList 0 i none (by simpa using hi) (fun _ _ h => by cases h)
    (fun j f hj => hall j f (by simpa using hj))
  simp [seasonOfDay, hfind]

theorem seasonOfDay_of_none {s : State} {d : Nat}
    (hall : ∀ (i : Nat) (e : SeasonEntry), s.su.seasons[i]? = some e → e.matchesDay d = false) : seasonOfDay s d = (none, 0) := by
  have hnone : bestSeason d s.su.seasons.toList 0 none = none := by
    refine bestSeason_stays _ 0 fun e he ⟨hm, _⟩ => ?_
    obtain ⟨i, hi⟩ := List.mem_iff_getElem?.mp he
    rw [hall i e (by simpa using hi)] at hm
    cases hm
  simp [seasonOfDay, hnone]

/-- Settles O21: the entry's match, the leap day, and the search through the table. -/
theorem programmeOfADate : Obligations.ProgrammeOfADate := by
  intro s d
  exact ⟨fun e => ⟨e.matchesDay_iff d, fun h => inRange_of_one_day h _, fun h => e.matchesDay_of_no_weekday h d⟩, leap_of_29_february,
    fun i e => seasonOfDay_of_best, seasonOfDay_of_none⟩

end Sys2Proof.Machine
end

section
/-! SUPPORT. The handling of triggers where none may post (R27, R40), and posting at a full queue (R32). -/

namespace Sys2Proof.Machine

/-- A trigger handled there moves the record and may be counted SUPPRESSED. -/
theorem handleTrigger_barred {s : State} (h : postingBarred s = true) (t : Nat) :
    handleTrigger t s = s.modSu fun u =>
      { u with
        record := .named t
        counters := if triggerShow s t = none then u.counters else { u.counters with suppressed := satInc u.counters.suppressed } } := by
  unfold handleTrigger judgeTrigger
  cases hshow : triggerShow s t with
  | none => rfl
  | some id => simp only [h, if_true]; rfl

/-- Handling the next trigger does so, or there is none that is reached; no head is examined, since none is new. -/
theorem nextTriggerHandled_barred {s : State} (h : postingBarred s = true) :
    (nextTriggerHandled s = s ∧ ∀ t, nextTrigger s = some t → s.tb.reading < postingOf s t) ∨
      ∃ t, nextTrigger s = some t ∧ nextTriggerHandled s = handleTrigger t s := by
  unfold nextTriggerHandled
  cases hdue : dueTrigger s with
  | none =>
    refine .inl ⟨rfl, fun t ht => ?_⟩
    have hnot := Option.filter_eq_none_iff.mp hdue t ht
    simpa using hnot
  | some t =>
    refine .inr ⟨t, (Option.filter_eq_some_iff.mp hdue).1, ?_⟩
    simp [examineNewHead, handleTrigger_barred h]

/-- The next trigger is the first after the record. -/
theorem nextTrigger_after_record {s : State} {t : Nat} (h : nextTrigger s = some t) : t = afterRecord s := by
  unfold nextTrigger at h
  split at h
  · exact (Option.some.inj h).symm
  · cases h

/-- A preroll of at most 30 s (R47) moves a posting by less than the 900 s between triggers. -/
theorem prerollOf_le {s : State} (h : ∀ e ∈ s.lu.directory, e.preroll ≤ 30000) (id : Option Nat) : prerollOf s id ≤ 30000000 := by
  unfold prerollOf
  cases he : id.bind s.entryOf with
  | none => simp
  | some e =>
    obtain ⟨i, -, hi⟩ := Option.bind_eq_some_iff.mp he
    have := h e (List.mem_of_find?_eq_some hi)
    simp
    omega

/-- The triggers whose posting instants are reached are those up to the last one (R26). -/
theorem postingOf_le_iff {s : State} (h : ∀ e ∈ s.lu.directory, e.preroll ≤ 30000) (r t : Nat) :
    postingOf s t ≤ r ↔ t ≤ lastPostingBy s r := by
  have hpre := prerollOf_le h (triggerShow s t)
  have hlast : lastPostingBy s r = if postingOf s (r / 900000000 + 1) ≤ r then r / 900000000 + 1 else r / 900000000 := rfl
  rcases Nat.lt_trichotomy t (r / 900000000 + 1) with ht | rfl | ht
  · have hdue : postingOf s t ≤ r := by simp only [postingOf, dueOf]; omega
    refine iff_of_true hdue ?_
    rw [hlast]
    split <;> omega
  · rw [hlast]
    split
    · next hd => exact iff_of_true hd (Nat.le_refl _)
    · next hd => exact iff_of_false hd (by omega)
  · have hdue : ¬ postingOf s t ≤ r := by simp only [postingOf, dueOf]; omega
    refine iff_of_false hdue ?_
    rw [hlast]
    split <;> omega

/-- `n` triggers handled where none may post leave the queue, and the next trigger unreached where no more than `n` were reached: each
handling moves the record by one trigger, and no posting instant. -/
theorem handleTriggers_barred : ∀ (n : Nat) {s : State}, postingBarred s = true → (∀ e ∈ s.lu.directory, e.preroll ≤ 30000) →
    (∀ t, nextTrigger s = some t → lastPostingBy s s.tb.reading < t + n) →
    (handleTriggers n s).su.queue = s.su.queue ∧
      ∀ t, nextTrigger (handleTriggers n s) = some t → s.tb.reading < postingOf (handleTriggers n s) t
  | 0, s, _, hd, hn => ⟨rfl, fun t ht => not_le.mp fun hle => absurd ((postingOf_le_iff hd _ t).mp hle) (not_le.mpr (hn t ht))⟩
  | n + 1, s, hb, hd, hn => by
    rw [show handleTriggers (n + 1) s = handleTriggers n (nextTriggerHandled s) from rfl]
    rcases nextTriggerHandled_barred hb with ⟨he, hrest⟩ | ⟨k, hk, he⟩
    · rw [he]
      refine handleTriggers_barred n hb hd fun t ht => ?_
      have := mt (postingOf_le_iff hd _ t).mpr (not_le.mpr (hrest t ht))
      omega
    · rw [he, handleTrigger_barred hb]
      refine handleTriggers_barred n hb hd fun t ht => ?_
      have hnext : t = k + 1 := nextTrigger_after_record ht
      have hreached := hn k hk
      show lastPostingBy s s.tb.reading < t + n
      omega

/-- Recomputing the next trigger handles as many as are reached (R27). -/
theorem recomputeTrigger_barred {s : State} (hb : postingBarred s = true) (hd : ∀ e ∈ s.lu.directory, e.preroll ≤ 30000) :
    (recomputeTrigger s).su.queue = s.su.queue ∧
      ∀ t, nextTrigger (recomputeTrigger s) = some t → s.tb.reading < postingOf (recomputeTrigger s) t := by
  refine handleTriggers_barred _ hb hd fun t ht => ?_
  simp only [triggersReached, ht]
  omega

/-- Settles O22: posting by its three cases, and the triggers where none may post. -/
theorem postingKeepsFourRequests : Obligations.PostingKeepsFourRequests := by
  intro r s hs
  refine ⟨postRequest_length hs r, fun h => ?_, fun before q after hq h4 hr hbefore hquarter => ?_, fun h4 hr => ?_,
    fun h t => handleTrigger_barred ((postingBarred_iff s).mpr h) t,
    fun hp hd => recomputeTrigger_barred ((postingBarred_iff s).mpr (.inr hp)) hd⟩
  · rw [postRequest_room h]
    rfl
  · rw [postRequest_evicts (by omega) hr (hq ▸ evictQuarter_append hquarter hbefore)]
    rfl
  · rw [postRequest_drops (by omega) (hr.imp_right evictQuarter_none)]
    exact ⟨rfl, rfl⟩

end Sys2Proof.Machine
end

section
/-! SUPPORT. The answers of the requests that read, on a ready link (R23, R24, R37, R53, R58, R84, R88, R131, R155, R171, R199). -/

namespace Sys2Proof.Machine

theorem bellOf_val {n : Nat} {b : Bell} (h : n = b.val) : bellOf n = some b := by
  subst h
  simp [bellOf]

theorem axisOf_val {n : Nat} {a : Axis} (h : n = a.val) : axisOf n = some a := by
  subst h
  simp [axisOf]

/-! ## Answers -/

/-- The results stand in the order of the bells (R88). -/
theorem selfTest_results_in_order (t : SelfTest) :
    t.results.toList.flatMap BellResult.fields = (allBells.map fun b => (t.results[b]).fields).flatten := by
  have h : t.results.toList = allBells.map fun b => t.results[b] := by
    rw [show allBells = List.finRange 24 from rfl]
    exact List.ext_getElem (by simp) fun i _ _ => by simp
  rw [h, List.flatMap_map, List.flatMap_def]

theorem getSelfTest_gives (p : List Byte) (s : State) : getSelfTest p s =
    ⟨.ok, s.pe.selfTest.state.fields ++ (allBells.map fun b => (s.pe.selfTest.results[b]).fields).flatten, s⟩ := by
  rw [getSelfTest, selfTest_results_in_order]

theorem getSeason_gives {p : List Byte} {i : Fin 16} (s : State) (hi : byteAt p 0 = i.val) :
    getSeason p s = ⟨.ok, (s.su.seasons[i]).fields, s⟩ := by
  simp [getSeason, hi]

theorem getHour_gives {p : List Byte} {pr : Fin 8} {h : Fin 24} (s : State) (hp : byteAt p 0 = pr.val) (hh : byteAt p 1 = h.val) :
    getHour p s = ⟨.ok, [.u8 (s.su.programmes[pr][h]).hourShow, .u8 (s.su.programmes[pr][h]).quarterShow,
      .u8 (some (s.su.programmes[pr][h]).mode.num)], s⟩ := by
  have he : hourEntry s pr h = some s.su.programmes[pr][h] := by simp [hourEntry]
  simp only [getHour, hp, hh, he]
  rfl

/-- GET_BELL, from the bell it names (R131). -/
theorem getBell_gives {p : List Byte} {b : Bell} (s : State) (hb : byteAt p 0 = b.val) {c : Channel} (hc : s.chan b = c) :
    getBell p s = ⟨.ok, [.u8 (some (s.bellPresent b).toNat), .u8 (some c.state.num), .u64 c.stateEnd, .u8 (some c.trial.toNat),
      .u8 (some c.faultCount), .u8 (c.lastFault.map (·.kind.num)), .u64 (c.lastFault.map (·.at_)), .u16 (c.lastFault.bind (·.trip)),
      .u32 (some c.heat), .u8 (some c.warm.toNat), .u8 (some c.dampEnd.isSome.toNat), .u64 c.dampEnd, .u8 (some c.missCount),
      .u8 (some c.verification.num)] ++ lastStrikeFields c.lastStrike, s⟩ := by
  subst hc
  simp only [getBell, bellOf_val hb]
  rfl

/-- The fields that GET_AXIS and GET_DOOR begin with: whether the axis is present, and its kind (R155, R171). -/
theorem getAxis_gives {p : List Byte} {a : Axis} (s : State) (ha : byteAt p 0 = a.val) :
    getAxis p s = ⟨.ok, [.u8 (some (s.axisProfile a).isSome.toNat), .u8 ((s.axisProfile a).map fun p => AxisKind.num p.kind)] ++
      (if s.isDoor a then [] else axisFields (s.axisProfile a) (s.axis a)), s⟩ := by
  simp only [getAxis, axisOf_val ha]
  rfl

theorem getDoor_gives {p : List Byte} {a : Axis} (s : State) (ha : byteAt p 0 = a.val) :
    getDoor p s = ⟨.ok, [.u8 (some (s.axisProfile a).isSome.toNat), .u8 ((s.axisProfile a).map fun p => AxisKind.num p.kind)] ++
      (if s.isDoor a then doorFields (setOf (s.isGuarded a) allAxes) (s.door a) else []), s⟩ := by
  simp only [getDoor, axisOf_val ha]
  rfl

/-- STORE_RESULT by what is in flight and what is held (R58). -/
theorem storeResult_none (p : List Byte) {s : State} (ho : s.lu.storeOp = none) (hr : s.lu.storeResult = none) :
    storeResult p s = ⟨.ok, [.u8 (some 0)], s⟩ := by
  simp only [storeResult, ho, hr]
  rfl

theorem storeResult_in_flight (p : List Byte) {s : State} {o : StoreOp} (ho : s.lu.storeOp = some o) :
    storeResult p s = ⟨.ok, .u8 (some 1) :: operationFields o.kind o.address o.length, s⟩ := by
  simp only [storeResult, ho]
  rfl

theorem storeResult_done (p : List Byte) {s : State} {r : StoreResult} (ho : s.lu.storeOp = none) (hr : s.lu.storeResult = some r) :
    storeResult p s =
      ⟨.ok, .u8 (some 2) :: operationFields r.kind r.address r.length ++ [.u8 (some r.outcome.num), .bytes r.data], s⟩ := by
  simp only [storeResult, ho, hr]
  rfl

theorem readLog_gives {p : List Byte} {i n : Nat} (s : State) (hi : byteAt p 0 = i) (hn : byteAt p 1 = n) (h15 : i ≤ 15) (h1 : 1 ≤ n)
    (h4 : n ≤ 4) {l : List LogRecord} (hl : l = (s.pe.log.drop i).take n) :
    readLog p s = ⟨.ok, .u8 (some l.length) :: (l.map LogRecord.fields).flatten, s⟩ := by
  subst hl
  have hc : i ≤ 15 ∧ 1 ≤ n ∧ n ≤ 4 := ⟨h15, h1, h4⟩
  simp only [readLog, hi, hn, hc, and_self, if_true, List.flatMap_def]
  rfl

/-- Settles O3: each request's answer on the state of its instant, which leaves that state. -/
theorem readsReplyOkAndChangeNothing : Obligations.ReadsReplyOkAndChangeNothing := by
  intro dt tag s u hu h
  exact ⟨ask_answers hu h rfl rfl rfl, ask_answers hu h rfl rfl rfl, ask_answers hu h rfl rfl (getSelfTest_gives [] u),
    ask_answers hu h rfl rfl rfl,
    fun ho hr => ask_answers hu h rfl rfl (storeResult_none [] ho hr),
    fun _ ho => ask_answers hu h rfl rfl (storeResult_in_flight [] ho),
    fun _ ho hr => ask_answers hu h rfl rfl (storeResult_done [] ho hr),
    fun _ x _ hx he => ask_answers hu h rfl rfl (he ▸ getSeason_gives (p := [x]) u hx),
    fun _ _ x y _ hx hy he => ask_answers hu h rfl rfl (he ▸ getHour_gives (p := [x, y]) u hx hy),
    fun _ x _ hx hc => ask_answers hu h rfl rfl (getBell_gives (p := [x]) u hx hc),
    fun _ x hx => ⟨ask_answers hu h rfl rfl (getAxis_gives (p := [x]) u hx), ask_answers hu h rfl rfl (getDoor_gives (p := [x]) u hx)⟩,
    fun i n h15 h1 h4 _ hl => ask_answers hu h rfl rfl (readLog_gives (p := [i, n]) u rfl rfl h15 h1 h4 hl)⟩

end Sys2Proof.Machine
end

section
/-! SUPPORT. PLAY_SHOW and STOP_SHOW on a ready link (R36, R79). -/

namespace Sys2Proof.Machine

/-! ## PLAY_SHOW (R36) -/

/-- The arguments of a PLAY_SHOW with start NOW. -/
theorem playArguments_now {p : List Byte} {m : Mode} (s : State) (hid : byteAt p 0 ≤ 63) (hm : Mode.ofNum (byteAt p 2) = some m)
    (h0 : byteAt p 3 = 0) : playArguments p s = some (byteAt p 0, byteAt p 1, m, none) := by
  simp only [playArguments, hm, not_lt.mpr hid, if_false, h0]

/-- The arguments of a PLAY_SHOW with a start given from now to a day ahead. -/
theorem playArguments_given {p : List Byte} {m : Mode} {s : State} (hid : byteAt p 0 ≤ 63) (hm : Mode.ofNum (byteAt p 2) = some m)
    (h1 : byteAt p 3 = 1) (hv : validDateTime (dateTimeAt p 4) = true) (hlo : s.tb.reading ≤ readingOf (dateTimeAt p 4))
    (hhi : readingOf (dateTimeAt p 4) ≤ s.tb.reading + 86400000000) :
    playArguments p s = some (byteAt p 0, byteAt p 1, m, some (readingOf (dateTimeAt p 4))) := by
  simp [playArguments, hm, not_lt.mpr hid, h1, hv, hlo, hhi, dayMicros]

/-- A PLAY_SHOW whose checks pass (R36). -/
theorem playShow_posts {p : List Byte} {id count : Nat} {m : Mode} {start : Option Nat} {e : DirEntry} {s : State}
    (hlocked : s.partLocked = false) (hpres : s.presenting = true) (hargs : playArguments p s = some (id, count, m, start))
    (he : s.entryOf id = some e) (hstale : e.stale = false) (hroom : s.su.queue.length < 4) :
    playShow p s = ⟨.ok, [.u8 (some (s.su.queue.length + 1))],
      examineNewHead s (countPosted (setQueue (s.su.queue ++ [linkRequest id count m start e s]) s))⟩ := by
  simp [playShow, hlocked, hpres, hargs, he, hstale, not_le.mpr hroom, n8]

/-! ## STOP_SHOW (R79) -/

/-- A flag byte is read as set when it is not 0 (R201). -/
theorem flagAt_zero_iff (b : Byte) (l : List Byte) : flagAt (b :: l) 0 = true ↔ b ≠ 0 := by
  simp [flagAt, byteAt, ← BitVec.toNat_inj]

/-- STOP_SHOW without its flag leaves the queue. -/
theorem stopShow_keeps_queue (s : State) :
    stopShow [0] s = ⟨.ok, [.u8 (some s.pe.engine.num), .u8 (some 0)], stopEngine s⟩ := rfl

theorem stopShow_flushes {b : Byte} (hb : b ≠ 0) (s : State) : stopShow [b] s =
    ⟨.ok, [.u8 (some s.pe.engine.num), .u8 (some (stopEngine s).su.queue.length)], flushQueue (stopEngine s)⟩ := by
  simp only [stopShow, (flagAt_zero_iff b []).mpr hb, if_true]
  rfl

/-- Settles O7: PLAY_SHOW by its two starts, and STOP_SHOW by its flag. -/
theorem showRequestsAct : Obligations.ShowRequestsAct := by
  refine ⟨?_, ?_⟩
  · intro dt due given tag p m e s u hu h hp hid hm hlocked hpres he hstale hroom hstart
    have hf : lengthFits 0x09 p = true := by simp [lengthFits, requiredLength, hp]
    rcases hstart with ⟨h0, rfl, rfl⟩ | ⟨h1, rfl, hv, rfl, hlo, hhi⟩
    · have hposts := playShow_posts hlocked hpres (playArguments_now u hid hm h0) he hstale hroom
      exact act_answers hu h hf rfl rfl hposts
    · have hposts := playShow_posts hlocked hpres (playArguments_given hid hm h1 hv hlo hhi) he hstale hroom
      exact act_answers hu h hf rfl rfl hposts
  · intro dt tag b s u v hu h hv
    subst hv
    by_cases hb : b = 0
    · subst hb
      exact act_answers hu h rfl rfl rfl (stopShow_keeps_queue u)
    · rw [if_neg hb]
      exact act_answers hu h rfl rfl rfl (stopShow_flushes hb u)

end Sys2Proof.Machine
end

section
/-! SUPPORT. The ends and timeouts of Store Port transfers (R43 to R46, R55 to R57). -/

namespace Sys2Proof.Machine

/-- The port's transfer ends for the requester it is carried out for, with as many bytes as it asked. -/
theorem endedTransfer_of_port {s : State} {x : PortUse} {data : List Byte} (hport : s.lu.port = some x)
    (hlen : data.length = x.transfer.returns) : endedTransfer x.requester data s = some x := by
  simp only [endedTransfer, hport, hlen, and_self, if_true]

/-! ## Walks (R43 to R46) -/

theorem walkTransferEnd_gives {s : State} {w : Walk} {data : List Byte} (hw : s.lu.walk = some w)
    (hport : s.lu.port = some ⟨.walk, w.phase.transfer, false⟩) (hlen : data.length = w.phase.transfer.returns) :
    walkTransferEnd data s = grantPort
      (match walkStep w.phase data (freePort s) with
      | (v, some reason) => endWalk reason (recomputeTrigger v)
      | (v, none) => recomputeTrigger v) := by
  have hend : endedTransfer .walk data s = some ⟨.walk, w.phase.transfer, false⟩ := endedTransfer_of_port hport hlen
  simp only [walkTransferEnd, hend, hw, if_true]
  cases walkStep w.phase data (freePort s) with
  | mk v reason => cases reason <;> rfl

theorem walkStatusTimeout_gives {s : State} {w : Walk} {f : Nat} (hw : s.lu.walk = some w) (hphase : w.phase = .poll (some f))
    (hf : f + 1000000 ≤ s.now) : walkStatusTimeout s = grantPort (modWalk (fun w => { w with phase := .header }) s) := by
  simp only [walkStatusTimeout, hw, hphase, hf, if_true]

/-! ## Store operations (R55 to R57) -/

theorem storeTransferEnd_gives {s : State} {o : StoreOp} {t : Transfer} {data : List Byte} (ho : s.lu.storeOp = some o)
    (hport : s.lu.port = some ⟨.store, t, false⟩) (hlen : data.length = t.returns) :
    storeTransferEnd data s = grantPort (storeStep o data (freePort s)) := by
  have hend : endedTransfer .store data s = some ⟨.store, t, false⟩ := endedTransfer_of_port hport hlen
  simp [storeTransferEnd, hend, ho]

theorem storeBusyTimeout_gives {s : State} {o : StoreOp} {f : Nat} (ho : s.lu.storeOp = some o) (hphase : o.phase = .poll (some f))
    (hf : f + 1000000 ≤ s.now) : storeBusyTimeout s = endStoreOp o .timeout [] s := by
  simp only [storeBusyTimeout, ho, hphase, hf, if_true]

/-- The flash is still busy at the limit of the operation's own kind (R56, R57). -/
theorem changeTimeout_gives {s : State} {o : StoreOp} {f : Nat} (limit : Nat) (ho : s.lu.storeOp = some o)
    (hphase : o.phase = .after f true) (hf : f + limit ≤ s.now) : changeTimeout o.kind limit s = endStoreOp o .timeout [] s := by
  simp only [changeTimeout, ho, hphase, hf, and_self, if_true]

/-- Settles O25: each command's effect on the state of its instant. -/
theorem storePortCommands : Obligations.StorePortCommands := by
  refine ⟨fun dt data w s u hu hw => ⟨fun hport hlen => ?_, fun f hphase hf => ?_⟩,
    fun dt data o t s u hu ho => ⟨fun hport hlen => ?_, fun f hphase hf => ?_, fun f hphase hk hf => ?_, fun f hphase hk hf => ?_⟩⟩
  · exact event_answers hu _ (walkTransferEnd_gives hw hport hlen)
  · exact event_answers hu _ (walkStatusTimeout_gives hw hphase hf)
  · exact event_answers hu _ (storeTransferEnd_gives ho hport hlen)
  · exact event_answers hu _ (storeBusyTimeout_gives ho hphase hf)
  · exact event_answers hu _ (hk ▸ changeTimeout_gives 10000 ho hphase hf)
  · exact event_answers hu _ (hk ▸ changeTimeout_gives 1000000 ho hphase hf)

end Sys2Proof.Machine
end

section
/-! SUPPORT. The performance log (R84). -/

namespace Sys2Proof.Machine

/-- The record of the performance that stands enters the log first, with the instant of the writing as its end. -/
theorem writeLog_log {p : Performance} {s : State} (hp : s.pe.perf = some p) :
    (writeLog s).pe.log = (p.logRecord s.tb.reading :: s.pe.log).take 16 := by
  simp only [writeLog, hp, modPe_pe]

/-- Settles O28: the record is `Performance.logRecord`, whose fields are the performance's own. -/
theorem logKeepsNewestSixteen : Obligations.LogKeepsNewestSixteen := fun p s hp =>
  ⟨p.logRecord s.tb.reading, writeLog_log hp, rfl, rfl, rfl, rfl, rfl, rfl, rfl, rfl, rfl, rfl, rfl, rfl, rfl, rfl⟩

end Sys2Proof.Machine
end

section
/-! SUPPORT. STRIKE_TEST, SELF_TEST, COUNTER_SELECT and COUNTER_SNAPSHOT on a ready link (R85, R86, R129, R130). -/

namespace Sys2Proof.Machine

theorem engineIdle_of_idle {s : State} (h : s.pe.engine = .idle) : s.engineIdle = true := by
  simp only [State.engineIdle, h, beq_self_eq_true]

/-! ## STRIKE_TEST and SELF_TEST (R85, R86) -/

/-- A STRIKE_TEST whose checks pass. -/
theorem strikeTest_strikes {p : List Byte} {b : Bell} {v : Nat} {s : State} (hlocked : s.partLocked = false)
    (hidle : s.pe.engine = .idle) (hb : byteAt p 0 = b.val) (hv : byteAt p 1 = v) (hlo : 1 ≤ v) (hhi : v ≤ 127)
    (hpresent : s.bellPresent b = true) :
    strikeTest p s = ⟨.ok, [], strikeArrives ⟨b, v, s.now, .test, none⟩ s⟩ := by
  have hrange : ¬ (v = 0 ∨ 127 < v) := by omega
  simp [strikeTest, hlocked, engineIdle_of_idle hidle, bellOf_val hb, hv, hrange, hpresent]

/-- A SELF_TEST outside the service states, with nothing that refuses it. -/
theorem selfTest_begins (p : List Byte) {s : State} (hlocked : s.partLocked = false) (hidle : s.pe.engine = .idle)
    (hpending : s.sv.presentation ≠ .servicePending) (hready : s.sv.presentation ≠ .serviceReady)
    (hservice : s.sv.presentation ≠ .service) (hmuted : s.muted = false) :
    selfTest p s = ⟨.accepted, [], beginSelfTest s⟩ := by
  unfold selfTest
  rw [hlocked, engineIdle_of_idle hidle, hmuted]
  cases hp : s.sv.presentation with
  | locked | run | quiet | still => rfl
  | servicePending => exact absurd hp hpending
  | serviceReady => exact absurd hp hready
  | service => exact absurd hp hservice

/-! ## The selection of the quality counter (R129) -/

theorem QualitySource.ofNum_num (src : QualitySource) : QualitySource.ofNum src.num = some src := by cases src <;> rfl

theorem QualityMode.ofNum_num (m : QualityMode) : QualityMode.ofNum m.num = some m := by cases m <;> rfl

theorem QualitySource.ofNum_eq_none {n : Nat} (h : 3 < n) : QualitySource.ofNum n = none := by
  obtain ⟨k, rfl⟩ : ∃ k, n = k + 4 := Nat.exists_eq_add_of_le' h
  rfl

theorem QualityMode.ofNum_eq_none {n : Nat} (h : 1 < n) : QualityMode.ofNum n = none := by
  obtain ⟨k, rfl⟩ : ∃ k, n = k + 2 := Nat.exists_eq_add_of_le' h
  rfl

/-- A selection keeps the count under the source that stands, and starts it at 0 under another. -/
theorem QualityCounter.select_eq (src : QualitySource) (m : QualityMode) (q : QualityCounter) :
    q.select src m =
      { source := src
        mode := m
        held := q.held
        count := if src = q.source then q.count else 0
        fullReported := if src = q.source then q.fullReported else false } := by
  unfold QualityCounter.select
  by_cases h : src = q.source
  · simp only [h, if_true]
  · simp only [h, if_false]

theorem counterSelect_selects {p : List Byte} {src : QualitySource} {m : QualityMode} (s : State) (hs : byteAt p 0 = src.num)
    (hm : byteAt p 1 = m.num) {q : QualityCounter} (hq : s.st.quality.select src m = q) :
    counterSelect p s =
      ⟨.ok, [.u16 (some q.count), .u16 (some q.held)], s.modSt fun w => { w with quality := q }⟩ := by
  subst hq
  simp only [counterSelect, hs, hm, QualitySource.ofNum_num, QualityMode.ofNum_num]
  rfl

theorem counterSelect_refuses {p : List Byte} (s : State) (h : 3 < byteAt p 0 ∨ 1 < byteAt p 1) :
    counterSelect p s = refuse .badArgument s := by
  rcases h with hs | hm
  · simp only [counterSelect, QualitySource.ofNum_eq_none hs]
  · cases hs : QualitySource.ofNum (byteAt p 0) <;> simp only [counterSelect, QualityMode.ofNum_eq_none hm, hs]

/-! ## Snapshots of the quality counter (R130) -/

theorem counterSnapshot_manual (p : List Byte) {s : State} (h : s.st.quality.mode = .manual) :
    counterSnapshot p s = ⟨.ok, [.u16 (some s.st.quality.count)], qualityTransfer s⟩ := by
  simp only [counterSnapshot, h, if_true]
  rfl

theorem counterSnapshot_auto (p : List Byte) {s : State} (h : s.st.quality.mode = .auto) :
    counterSnapshot p s = ⟨.ok, [.u16 (some s.st.quality.held)], s⟩ := by
  simp [counterSnapshot, h, n16]

/-- Settles O9: each request's answer, and the form of a request that is answered or refused. -/
theorem strikeUnitRequests : Obligations.StrikeUnitRequests := by
  refine ⟨fun dt tag s u hu h hlocked hidle => ⟨?_, ?_⟩, fun dt tag s u hu h => ⟨?_, ?_, ?_, ?_⟩⟩
  · intro b p v hp hlo hhi hpresent
    exact act_answers hu h rfl rfl rfl (strikeTest_strikes (p := [p, v]) hlocked hidle hp rfl hlo hhi hpresent)
  · intro hpending hready hservice hmuted
    exact act_answers hu h rfl rfl rfl (selfTest_begins [] hlocked hidle hpending hready hservice hmuted)
  · intro x y src m hx hy
    refine ⟨_, ?_, ?_, ?_, ?_, ?_,
      ask_answers hu h rfl rfl (counterSelect_selects (p := [x, y]) u hx hy (u.st.quality.select_eq src m))⟩
    all_goals rfl
  · intro x y hxy
    exact refusal_answers hu h rfl ((judge_fits u rfl).trans (counterSelect_refuses (p := [x, y]) u hxy))
  · exact fun hmode => ask_answers hu h rfl rfl (counterSnapshot_manual [] hmode)
  · exact fun hmode => ask_answers hu h rfl rfl (counterSnapshot_auto [] hmode)

end Sys2Proof.Machine
end

section
/-! SUPPORT. The instants of a performance: its start (R65), the ends of its divisions, waits and stalls (R15, R69, R74), and its timers
(R77, R80). -/

namespace Sys2Proof.Machine

section
variable {s : State}

/-! ## The start (R65) -/

theorem mayStart_of_complete {p : Performance} (hengine : s.pe.engine = .preparing) (hp : s.pe.perf = some p)
    (hcomplete : preparationComplete s = true) (hdue : p.dueCount ≤ (s.now : Int)) : mayStart s = true := by
  simp [mayStart, hengine, hp, hcomplete, hdue]

theorem preparationLimit_starts {p : Performance} (hengine : s.pe.engine = .preparing) (hp : s.pe.perf = some p)
    (hlimit : p.prepLimit ≤ (s.now : Int)) : preparationLimit s = startPlaying s := by
  simp [preparationLimit, hengine, hp, hlimit]

/-! ## The score (R15, R69, R74) -/

theorem divisionInstant_gives {e : Nat} (hengine : s.pe.engine = .playing) (hend : s.tb.synth.divEnd = some e) (he : e ≤ s.now) :
    divisionInstant s = runEvents (s.modSynth (·.nextBoundary e)) := by
  simp only [divisionInstant, hend, hengine, he, and_self, if_true]

theorem waitLimitExpiry_gives {a : Axis} {limit : Nat} {met : Bool} (hhold : s.pe.hold = .wait a limit met) (he : limit ≤ s.now) :
    waitLimitExpiry s = releaseHold (countWaitTimeout s) := by
  simp only [waitLimitExpiry, hhold, he, if_true]

theorem stallTimeout_gives {since : Nat} (hhold : s.pe.hold = .stall since) (he : since + 500000 ≤ s.now) :
    stallTimeout s = enterCoda .storeStall s := by
  simp only [stallTimeout, hhold, he, if_true]

/-! ## The timers (R77, R80) -/

theorem codaTimeout_gives {p : Profile} {t : Nat} (hprofile : s.lu.profile = some p) (hengine : s.pe.engine = .coda)
    (hstart : s.pe.codaStart = some t) (he : t + p.codaTimeoutS * 1000000 ≤ s.now) :
    codaTimeout s = enterIdle (modPerf (·.codaTimedOut) s) := by
  simp only [codaTimeout, hprofile, hstart, hengine, he, and_self, if_true]

theorem supplyTimerExpiry_gives {e : Nat} (htimer : s.pe.supplyTimer = some e) (he : e ≤ s.now) :
    supplyTimerExpiry s = abortToIdle .abortedSupply true s := by
  simp [supplyTimerExpiry, htimer, he]

theorem thermalTimerExpiry_gives {e : Nat} (htimer : s.pe.thermalTimer = some e) (he : e ≤ s.now) :
    thermalTimerExpiry s = abortToIdle .abortedThermal true s := by
  simp [thermalTimerExpiry, htimer, he]

/-! ## Prefetch reads and hand-overs (R42, R72, R86) -/

theorem prefetchReadEnd_gives {a n : Nat} {data : List Byte} (hport : s.lu.port = some ⟨.prefetch, .read a n, false⟩)
    (hlen : data.length = n) : prefetchReadEnd data s = grantPort (fillRing a data (freePort s)) := by
  have hend : endedTransfer .prefetch data s = some ⟨.prefetch, .read a n, false⟩ := endedTransfer_of_port hport hlen
  simp [prefetchReadEnd, hend]

theorem selfTestHandoff_gives {b : Bell} {rest : List Bell} (hengine : s.pe.engine = .selfTest)
    (htodo : s.pe.selfTest.todo = b :: rest) (hdue : s.pe.selfTest.start + 500000 * s.pe.selfTest.handed ≤ s.now) :
    selfTestHandoff s = handOver b rest s := by
  simp only [selfTestHandoff, htodo, hengine, hdue, and_self, if_true]

end

/-! ## The commands -/

/-- Settles O26: each command's effect on the state of its instant. -/
theorem scoreBeginsAndGoesOn : Obligations.ScoreBeginsAndGoesOn := by
  refine ⟨fun dt p s u hu hengine hp => ⟨fun hcomplete hdue => ?_, fun hlimit => ?_⟩,
    fun dt e s u hu he => ⟨fun hengine hend => ?_, fun a met hhold => ?_, fun since hhold hsince => ?_⟩⟩
  · exact event_answers hu (fun s => if mayStart s then startPlaying s else s)
      (if_pos (mayStart_of_complete hengine hp hcomplete hdue))
  · exact event_answers hu _ (preparationLimit_starts hengine hp hlimit)
  · exact event_answers hu _ (divisionInstant_gives hengine hend he)
  · exact event_answers hu _ (waitLimitExpiry_gives hhold he)
  · exact event_answers hu _ (stallTimeout_gives hhold (hsince ▸ he))

/-- Settles O27: each command's effect on the state of its instant. -/
theorem performanceTimersAndHandoffs : Obligations.PerformanceTimersAndHandoffs := by
  refine ⟨fun dt e s u hu he => ⟨fun p hprofile hengine hstart => ?_, fun htimer => ?_, fun htimer => ?_⟩,
    fun dt s u hu => ⟨fun a n data hport hlen => ?_, fun b rest hengine htodo hdue => ?_⟩⟩
  · obtain ⟨t, ht, hsum⟩ := hstart
    exact event_answers hu _ (codaTimeout_gives hprofile hengine ht (hsum ▸ he))
  · exact event_answers hu _ (supplyTimerExpiry_gives htimer he)
  · exact event_answers hu _ (thermalTimerExpiry_gives htimer he)
  · exact event_answers hu _ (prefetchReadEnd_gives hport hlen)
  · exact event_answers hu _ (selfTestHandoff_gives hengine htodo hdue)

end Sys2Proof.Machine
end

section
/-! SUPPORT. What the strike queue, the channels and the energized-current sum keep, and what each operation of the Strike Unit does to
them, in the order of Machine/Strike.lean. A channel's records, its verification and its fault watch stand apart from its coil, and the
reports and tallies change nothing else. -/

namespace Sys2Proof.Machine

variable {s t u : State}

/-! ## Coils -/

/-- What drives and heats a bell: its channel without the records, the verification and the fault watch. -/
structure Coil where
  state : ChannelState
  pulseEnd : Nat
  admitted : Nat
  recoveryEnd : Option Nat
  heat : Nat
  dampEnd : Option Nat

def Channel.coil (c : Channel) : Coil := ⟨c.state, c.pulseEnd, c.admitted, c.recoveryEnd, c.heat, c.dampEnd⟩

/-- The working profile, the mute reason set, the strike queue, the energized-current sum and every coil are as before. -/
structure SameBells (s t : State) : Prop where
  profile : t.lu.profile = s.lu.profile
  mute : t.sv.mute = s.sv.mute
  queue : t.st.queue = s.st.queue
  sum : t.st.sum = s.st.sum
  coil : ∀ b : Bell, (t.chan b).coil = (s.chan b).coil

theorem SameBells.refl (s : State) : SameBells s s := ⟨rfl, rfl, rfl, rfl, fun _ => rfl⟩

theorem SameBells.trans (h : SameBells s t) (g : SameBells t u) : SameBells s u :=
  ⟨g.profile.trans h.profile, g.mute.trans h.mute, g.queue.trans h.queue, g.sum.trans h.sum, fun b => (g.coil b).trans (h.coil b)⟩

/-- What leaves the Strike Unit alone leaves its bells alone. -/
theorem SameBells.beside (hst : t.st = s.st) (hprofile : t.lu.profile = s.lu.profile) (hmute : t.sv.mute = s.sv.mute) :
    SameBells s t :=
  ⟨hprofile, hmute, by rw [hst], by rw [hst], fun b => by rw [State.chan, hst]; rfl⟩

theorem bellPresent_congr (h : t.lu.profile = s.lu.profile) (b : Bell) : t.bellPresent b = s.bellPresent b := by
  simp only [State.bellPresent, h]

theorem bellPresent_iff (s : State) (b : Bell) :
    s.bellPresent b = true ↔ ∃ p, s.lu.profile = some p ∧ p.bellsPresent.getLsbD b.val = true := by
  unfold State.bellPresent
  cases s.lu.profile <;> simp

/-- The profile entry of a present bell stands in the working profile alone. -/
theorem bellProfile_congr (h : t.lu.profile = s.lu.profile) {b : Bell} (hb : s.bellPresent b = true) :
    t.bellProfile b = s.bellProfile b := by
  obtain ⟨p, hp, hbit⟩ := (bellPresent_iff s b).mp hb
  simp only [State.bellProfile, h, hp, hbit, if_true]

theorem SameBells.state (h : SameBells s t) (b : Bell) : (t.chan b).state = (s.chan b).state := congrArg Coil.state (h.coil b)

theorem SameBells.admitted (h : SameBells s t) (b : Bell) : (t.chan b).admitted = (s.chan b).admitted := congrArg Coil.admitted (h.coil b)

theorem SameBells.heat (h : SameBells s t) (b : Bell) : (t.chan b).heat = (s.chan b).heat := congrArg Coil.heat (h.coil b)

theorem SameBells.dampEnd (h : SameBells s t) (b : Bell) : (t.chan b).dampEnd = (s.chan b).dampEnd := congrArg Coil.dampEnd (h.coil b)

/-! ## Single updates -/

/-- What an update makes of the channel it is for holds of every channel, where it holds of one left alone. -/
theorem modChan_each {R : Channel → Channel → Prop} (hrefl : ∀ c, R c c) (b : Bell) {f : Channel → Channel}
    (hb : R (s.chan b) (f (s.chan b))) (c : Bell) : R (s.chan c) ((s.modChan b f).chan c) := by
  rw [modChan_chan]
  split
  · next hc => rwa [hc]
  · exact hrefl _

/-- An update of a channel's records. -/
theorem modChan_sameBells (b : Bell) {f : Channel → Channel} (hf : (f (t.chan b)).coil = (t.chan b).coil) (h : SameBells s t) :
    SameBells s (t.modChan b f) :=
  h.trans ⟨rfl, rfl, rfl, rfl, modChan_each (R := fun c d => d.coil = c.coil) (fun _ => rfl) b hf⟩

/-- An update of the Strike Unit's tallies. -/
theorem modSt_sameBells {f : StrikeUnit → StrikeUnit} (hq : (f t.st).queue = t.st.queue) (hs : (f t.st).sum = t.st.sum)
    (hc : (f t.st).channels = t.st.channels) (h : SameBells s t) : SameBells s (t.modSt f) :=
  h.trans ⟨rfl, rfl, hq, hs, fun b => by rw [State.chan, modSt_st, hc]; rfl⟩

theorem modPe_sameBells (f : PerformanceEngine → PerformanceEngine) (h : SameBells s t) : SameBells s (t.modPe f) :=
  h.trans (.beside rfl rfl rfl)

theorem raise_sameBells (k : Kind) (h : SameBells s t) : SameBells s (raise k t) := h.trans (.beside rfl rfl rfl)

theorem setLevel_sameBells (v : Level) (on : Bool) (h : SameBells s t) : SameBells s (setLevel v on t) := h.trans (.beside rfl rfl rfl)

/-! ## Reports, tallies and records -/

theorem reportOrigin_sameBells (q : StrikeRequest) (f : Performance → Performance) (r : Option BellResult) (h : SameBells s t) :
    SameBells s (reportOrigin q f r t) := by
  obtain ⟨g, hg⟩ := reportOrigin_cases q f r t
  rw [hg]
  exact modPe_sameBells g h

theorem qualityCount_sameBells (h : SameBells s t) : SameBells s (qualityCount t) := by
  unfold qualityCount
  dsimp only
  split
  · exact raise_sameBells _ (modSt_sameBells rfl rfl rfl h)
  · exact modSt_sameBells rfl rfl rfl h

theorem qualityDrop_sameBells (r : DropReason) (h : SameBells s t) : SameBells s (qualityDrop r t) := by
  unfold qualityDrop
  split
  · exact qualityCount_sameBells h
  · exact h

theorem qualityMiss_sameBells (h : SameBells s t) : SameBells s (qualityMiss t) := by
  unfold qualityMiss
  split
  · exact qualityCount_sameBells h
  · exact h

theorem qualityTransfer_sameBells (h : SameBells s t) : SameBells s (qualityTransfer t) := modSt_sameBells rfl rfl rfl h

theorem judgeThermal_sameBells (b : Bell) (h : SameBells s t) : SameBells s (judgeThermal b t) := modChan_sameBells b rfl h

theorem reportWarm_sameBells (h : SameBells s t) : SameBells s (reportWarm t) := setLevel_sameBells _ _ h

theorem dropStrike_sameBells (r : DropReason) (g : Option Stages) (q : StrikeRequest) (h : SameBells s t) :
    SameBells s (dropStrike r g q t) := by
  unfold dropStrike
  exact reportOrigin_sameBells q _ _ (qualityDrop_sameBells r (modSt_sameBells rfl rfl rfl (modChan_sameBells q.bell rfl h)))

theorem verdict_sameBells (b : Bell) (heard : Bool) (h : SameBells s t) : SameBells s (verdict b heard t) := by
  have hrecord : ∀ (o : VerifyOutcome) (n : Channel → Nat), SameBells s (t.modChan b fun c =>
      { c.setVerify o with verification := .none, strike := none, missCount := n c }) := fun _ _ => modChan_sameBells b rfl h
  unfold verdict
  cases heard with
  | true =>
    simp only [if_true]
    split
    · exact hrecord .heard (·.missCount)
    · exact reportOrigin_sameBells _ _ _ (hrecord .heard (·.missCount))
  | false =>
    simp only [Bool.false_eq_true, if_false]
    split
    · exact qualityMiss_sameBells (hrecord .miss fun c => min (c.missCount + 1) 255)
    · exact reportOrigin_sameBells _ _ _ (qualityMiss_sameBells (hrecord .miss fun c => min (c.missCount + 1) 255))

theorem closeVerification_sameBells (b : Bell) (h : SameBells s t) : SameBells s (closeVerification b t) := by
  unfold closeVerification
  split
  · exact h
  · exact verdict_sameBells b _ h
  · exact verdict_sameBells b _ h

theorem verifyCleanEnd_sameBells (b : Bell) (h : SameBells s t) : SameBells s (verifyCleanEnd b t) := by
  have hrecord : SameBells s (t.modChan b fun c => { c with strike := none }) := modChan_sameBells b rfl h
  unfold verifyCleanEnd
  split
  · exact h
  · exact verdict_sameBells b _ h
  · dsimp only
    split
    · exact hrecord
    · exact reportOrigin_sameBells _ _ _ hrecord

/-! ## Firing (R99) -/

/-- The coil of a channel as a firing leaves it (R99). -/
def Coil.fire (now width current : Nat) (c : Coil) : Coil := ⟨.pulse, now + width, current, none, c.heat + width, none⟩

/-- The part of a firing that energizes the coil, without the verdict before it and the reports after it (R98, R99). -/
def energize (q : StrikeRequest) (g : Stages) (p : BellProfile) (s : State) : State :=
  (s.modChan q.bell (·.fire q g p s.now (s.pins.hlim.getLsbD q.bell.val) (s.pins.hprs.getLsbD q.bell.val))).modSt fun u =>
    { u with sum := u.sum + p.current, counters := { u.counters with fired := satInc u.counters.fired } }

/-- Apart from the coil, a firing is a verdict and reports. -/
theorem fireStrike_sameBells (q : StrikeRequest) (g : Stages) (s : State) :
    SameBells (energize q g (s.bellProfile q.bell) (closeVerification q.bell s)) (fireStrike q g s) := by
  unfold fireStrike
  exact reportOrigin_sameBells q _ _ (reportWarm_sameBells (judgeThermal_sameBells _ (.refl _)))

theorem closeVerification_now (b : Bell) (s : State) : (closeVerification b s).now = s.now :=
  congrArg TimeBase.counter (closeVerification_onlyStrikes b (.refl s)).tb

theorem fireStrike_queue (q : StrikeRequest) (g : Stages) (s : State) : (fireStrike q g s).st.queue = s.st.queue :=
  (fireStrike_sameBells q g s).queue.trans (closeVerification_sameBells q.bell (.refl s)).queue

theorem fireStrike_sum (q : StrikeRequest) (g : Stages) (s : State) :
    (fireStrike q g s).st.sum = s.st.sum + (s.bellProfile q.bell).current := by
  have hsum : (closeVerification q.bell s).st.sum = s.st.sum := (closeVerification_sameBells q.bell (.refl s)).sum
  rw [(fireStrike_sameBells q g s).sum, ← hsum]
  rfl

theorem fireStrike_coil (q : StrikeRequest) (g : Stages) (s : State) :
    ((fireStrike q g s).chan q.bell).coil = (s.chan q.bell).coil.fire s.now g.w3 (s.bellProfile q.bell).current := by
  have hcoil := (closeVerification_sameBells q.bell (.refl s)).coil q.bell
  rw [(fireStrike_sameBells q g s).coil, ← hcoil, ← closeVerification_now q.bell s]
  exact congrArg Channel.coil (modChan_chan_self q.bell _ _)

theorem fireStrike_coil_ne (q : StrikeRequest) (g : Stages) (s : State) {b : Bell} (hb : b ≠ q.bell) :
    ((fireStrike q g s).chan b).coil = (s.chan b).coil := by
  rw [(fireStrike_sameBells q g s).coil, ← (closeVerification_sameBells q.bell (.refl s)).coil b]
  exact congrArg Channel.coil (modChan_chan_ne hb _ _)

/-! ## Ends of a pulse (R100, R101) -/

/-- A channel's part of the end of a pulse (R98, R112). -/
def Channel.release (k : PulseEndKind) (c : Channel) : Channel :=
  { c with admitted := 0, tripAt := none, lastStrike := c.lastStrike.map (·.ends k) }

theorem releaseCoil_chan (b : Bell) (k : PulseEndKind) (s : State) (c : Bell) :
    (releaseCoil b k s).chan c = (s.modChan b (·.release k)).chan c := rfl

theorem releaseCoil_coil (b : Bell) (k : PulseEndKind) (s : State) :
    ((releaseCoil b k s).chan b).coil = { (s.chan b).coil with admitted := 0 } := by
  rw [releaseCoil_chan, modChan_chan_self]
  rfl

theorem releaseCoil_coil_ne (b : Bell) (k : PulseEndKind) (s : State) {c : Bell} (hc : c ≠ b) :
    ((releaseCoil b k s).chan c).coil = (s.chan c).coil := by rw [releaseCoil_chan, modChan_chan_ne hc]

/-- A cut is a release and records (R101). -/
theorem cutPulse_sameBells (b : Bell) (k : PulseEndKind) (s : State) : SameBells (releaseCoil b k s) (cutPulse b k s) := by
  have hrecord : SameBells (releaseCoil b k s) ((releaseCoil b k s).modChan b fun c =>
      { (if c.verification = .none then c else c.setVerify .notVerified) with verification := .none, strike := none }) :=
    modChan_sameBells b (by split <;> rfl) (.refl _)
  unfold cutPulse
  dsimp only
  split
  · exact hrecord
  · exact reportOrigin_sameBells _ _ _ hrecord

theorem cutPulse_coil (b : Bell) (k : PulseEndKind) (s : State) :
    ((cutPulse b k s).chan b).coil = { (s.chan b).coil with admitted := 0 } :=
  ((cutPulse_sameBells b k s).coil b).trans (releaseCoil_coil b k s)

theorem cutPulse_admitted (b : Bell) (k : PulseEndKind) (s : State) : ((cutPulse b k s).chan b).admitted = 0 :=
  congrArg Coil.admitted (cutPulse_coil b k s)

/-- A clean end before the head is examined (R100, R116). -/
def cleanEnd (b : Bell) (s : State) : State :=
  verifyCleanEnd b (enterRecovery b ((releaseCoil b .clean s).modChan b fun c =>
    { c with faultCount := if c.trial then 0 else c.faultCount, trial := false }))

theorem endPulseClean_eq (b : Bell) (s : State) : endPulseClean b s = examineStrikes (cleanEnd b s) := rfl

theorem cleanEnd_coil (b : Bell) (s : State) :
    ((cleanEnd b s).chan b).coil =
      { (s.chan b).coil with state := .recovery, admitted := 0, recoveryEnd := some (s.now + (s.bellProfile b).trec * 1000) } := by
  rw [cleanEnd, (verifyCleanEnd_sameBells b (.refl _)).coil b, enterRecovery, modChan_chan_self, modChan_chan_self]
  exact congrArg (fun c : Coil => { c with state := .recovery, recoveryEnd := some (s.now + (s.bellProfile b).trec * 1000) })
    (releaseCoil_coil b .clean s)

theorem cleanEnd_sum (b : Bell) (s : State) : (cleanEnd b s).st.sum = s.st.sum - (s.chan b).admitted :=
  (verifyCleanEnd_sameBells b (.refl _)).sum

theorem cleanEnd_queue (b : Bell) (s : State) : (cleanEnd b s).st.queue = s.st.queue := (verifyCleanEnd_sameBells b (.refl _)).queue

/-- Settles O35: the coil and the sum as a firing, a cut and a clean end leave them. -/
theorem energizedCurrentIsReleased : Obligations.EnergizedCurrentIsReleased := by
  intro q g b k s
  have hfire := fireStrike_coil q g s
  have hclean := cleanEnd_coil b s
  exact ⟨fireStrike_sum q g s, congrArg Coil.admitted hfire, congrArg Coil.state hfire, congrArg Coil.pulseEnd hfire,
    congrArg Coil.dampEnd hfire, (cutPulse_sameBells b k s).sum, cutPulse_admitted b k s, cleanEnd b s,
    endPulseClean_eq b s, cleanEnd_sum b s, congrArg Coil.admitted hclean, congrArg Coil.state hclean, congrArg Coil.recoveryEnd hclean,
    cleanEnd_queue b s⟩

end Sys2Proof.Machine
end

section
/-! SUPPORT. The strike queue: where an arriving request takes its place, what is dropped, and what an examination decides of the head
(R91 to R96). -/

namespace Sys2Proof.Machine

/-! ## Places in due order (R91) -/

/-- An insertion splits the queue at the first entry that is due later. -/
theorem insertStrike_splits (q : StrikeRequest) : ∀ l : List StrikeRequest, l.Pairwise (fun x y => x.due ≤ y.due) →
    ∃ before after, l = before ++ after ∧ insertStrike q l = before ++ q :: after ∧
      (∀ x ∈ before, x.due ≤ q.due) ∧ ∀ x ∈ after, q.due < x.due
  | [], _ => ⟨[], [], rfl, rfl, List.forall_mem_nil _, List.forall_mem_nil _⟩
  | e :: rest, h => by
    obtain ⟨hfirst, hrest⟩ := List.pairwise_cons.mp h
    by_cases he : e.due ≤ q.due
    · obtain ⟨before, after, hl, hi, hb, ha⟩ := insertStrike_splits q rest hrest
      refine ⟨e :: before, after, by rw [hl, List.cons_append], ?_, List.forall_mem_cons.mpr ⟨he, hb⟩, ha⟩
      rw [insertStrike, if_pos he, hi, List.cons_append]
    · have hlater : q.due < e.due := not_le.mp he
      refine ⟨[], e :: rest, rfl, by rw [insertStrike, if_neg he, List.nil_append], List.forall_mem_nil _, ?_⟩
      exact List.forall_mem_cons.mpr ⟨hlater, fun x hx => lt_of_lt_of_le hlater (hfirst x hx)⟩

theorem insertStrike_pairwise (q : StrikeRequest) {l : List StrikeRequest} (h : l.Pairwise (fun x y => x.due ≤ y.due)) :
    (insertStrike q l).Pairwise (fun x y => x.due ≤ y.due) := by
  obtain ⟨before, after, rfl, hi, hb, ha⟩ := insertStrike_splits q l h
  obtain ⟨hbefore, hafter, hacross⟩ := List.pairwise_append.mp h
  rw [hi, List.pairwise_append, List.pairwise_cons]
  exact ⟨hbefore, ⟨fun x hx => (ha x hx).le, hafter⟩, fun x hx => List.forall_mem_cons.mpr ⟨hb x hx, hacross x hx⟩⟩

/-- Settles O31: an insertion splits the queue, and the order across the split is that of the dues. -/
theorem strikeQueueStaysInOrder : Obligations.StrikeQueueStaysInOrder := fun q l h =>
  ⟨insertStrike_pairwise q h, insertStrike_splits q l h⟩

/-! ## Drops (R91, R107 to R109) -/

theorem reportOrigin_st (q : StrikeRequest) (f : Performance → Performance) (r : Option BellResult) (s : State) :
    (reportOrigin q f r s).st = s.st := by
  obtain ⟨g, hg⟩ := reportOrigin_cases q f r s
  rw [hg, modPe_st]

/-- An offered drop changes at most the quality counter (R128). -/
theorem qualityDrop_st (r : DropReason) (s : State) : ∃ c, (qualityDrop r s).st = { s.st with quality := c } := by
  unfold qualityDrop qualityCount
  dsimp only
  split
  · split
    · exact ⟨_, rfl⟩
    · exact ⟨_, rfl⟩
  · exact ⟨s.st.quality, rfl⟩

/-- The last strike record of a drop (R108). -/
def LastStrike.ofDrop (r : DropReason) (g : Option Stages) (q : StrikeRequest) (now : Nat) : LastStrike :=
  ⟨q.origin, q.velocity, q.due, .dropped r, now, g, none⟩

def Channel.recordStrike (l : LastStrike) (c : Channel) : Channel := { c with lastStrike := some l }

/-- What a drop changes of the Strike Unit: the bell's record, the counter of its reason, and at most the quality counter. -/
theorem dropStrike_st (r : DropReason) (g : Option Stages) (q : StrikeRequest) (s : State) :
    ∃ c, (dropStrike r g q s).st =
      { (s.modChan q.bell (·.recordStrike (.ofDrop r g q s.now))).st with
        counters := s.st.counters.countDrop r
        quality := c } := by
  unfold dropStrike
  rw [reportOrigin_st]
  exact qualityDrop_st r _

theorem dropStrike_counters (r : DropReason) (g : Option Stages) (q : StrikeRequest) (s : State) :
    (dropStrike r g q s).st.counters = s.st.counters.countDrop r := by
  obtain ⟨c, hc⟩ := dropStrike_st r g q s
  rw [hc]

theorem dropStrike_lastStrike (r : DropReason) (g : Option Stages) (q : StrikeRequest) (s : State) :
    ((dropStrike r g q s).chan q.bell).lastStrike = some (.ofDrop r g q s.now) := by
  obtain ⟨c, hc⟩ := dropStrike_st r g q s
  rw [State.chan, hc]
  exact congrArg Channel.lastStrike (modChan_chan_self q.bell (·.recordStrike (.ofDrop r g q s.now)) s)

theorem dropStrike_queue (r : DropReason) (g : Option Stages) (q : StrikeRequest) (s : State) :
    (dropStrike r g q s).st.queue = s.st.queue := (dropStrike_sameBells r g q (.refl s)).queue

/-! ## Arrivals (R92) -/

theorem strikeArrives_muted (q : StrikeRequest) {s : State} (h : s.muted = true) :
    strikeArrives q s = dropStrike .muted none q s := if_pos h

theorem strikeArrives_full (q : StrikeRequest) {s : State} (h : s.muted = false) (hfull : 32 ≤ s.st.queue.length) :
    strikeArrives q s = dropStrike .overflow none q s := by
  rw [strikeArrives, if_neg (by simp [h]), if_pos hfull]

/-- Behind a head that is due no later, the arriving request is placed and the head is not examined. -/
theorem strikeArrives_behind {q e : StrikeRequest} {rest : List StrikeRequest} {s : State} (h : s.muted = false)
    (hroom : s.st.queue.length < 32) (hq : s.st.queue = e :: rest) (hdue : e.due ≤ q.due) :
    strikeArrives q s = setStrikes (e :: insertStrike q rest) s := by
  have hplace : insertStrike q s.st.queue = e :: insertStrike q rest := by rw [hq, insertStrike, if_pos hdue]
  have hhead : ¬ ((e :: insertStrike q rest).head? = some q ∧ s.st.queue.head? ≠ some q) := by simp [hq]
  simp only [strikeArrives, h, Bool.false_eq_true, if_false, not_le.mpr hroom, hplace, hhead]

/-- An arriving request that becomes the head is examined. -/
theorem strikeArrives_first {q : StrikeRequest} {s : State} (h : s.muted = false) (hroom : s.st.queue.length < 32)
    (hq : s.st.queue = [] ∨ ∃ e rest, s.st.queue = e :: rest ∧ q.due < e.due) :
    strikeArrives q s = examineStrikes (setStrikes (q :: s.st.queue) s) := by
  have hplace : insertStrike q s.st.queue = q :: s.st.queue := by
    rcases hq with hnil | ⟨e, rest, hcons, hdue⟩
    · rw [hnil, insertStrike]
    · rw [hcons, insertStrike, if_neg (not_le.mpr hdue)]
  have hhead : s.st.queue.head? ≠ some q := by
    rcases hq with hnil | ⟨e, rest, hcons, hdue⟩
    · simp [hnil]
    · rw [hcons, List.head?_cons]
      rintro ⟨⟩
      exact lt_irrefl _ hdue
  simp only [strikeArrives, h, Bool.false_eq_true, if_false, not_le.mpr hroom, hplace, List.head?_cons, ne_eq, hhead,
    not_false_eq_true, and_self, if_true]

/-- Everything an arrival can do (R92). -/
theorem strikeArrives_cases (q : StrikeRequest) (s : State) :
    (∃ r, strikeArrives q s = dropStrike r none q s) ∨
      s.muted = false ∧ s.st.queue.length < 32 ∧
        (strikeArrives q s = setStrikes (insertStrike q s.st.queue) s ∨
          strikeArrives q s = examineStrikes (setStrikes (insertStrike q s.st.queue) s)) := by
  unfold strikeArrives
  split
  · exact .inl ⟨_, rfl⟩
  · next hm =>
    split
    · exact .inl ⟨_, rfl⟩
    · next hroom =>
      refine .inr ⟨Bool.eq_false_iff.mpr hm, not_le.mp hroom, ?_⟩
      dsimp only
      split
      · exact .inr rfl
      · exact .inl rfl

/-- Settles O33: muted before full before placed, and the two places of an arriving request. -/
theorem arrivalsAreDroppedOrPlaced : Obligations.ArrivalsAreDroppedOrPlaced := by
  refine fun q s => ⟨fun h => ?_, fun h hfull => ?_, fun h hroom => ⟨fun e rest hq hdue => ?_, fun hq => ?_⟩⟩
  · rw [strikeArrives_muted q h]
    exact ⟨dropStrike_queue _ _ q s, congrArg StrikeCounters.muted (dropStrike_counters _ _ q s), dropStrike_lastStrike _ _ q s⟩
  · rw [strikeArrives_full q h hfull]
    exact ⟨dropStrike_queue _ _ q s, congrArg StrikeCounters.overflow (dropStrike_counters _ _ q s)⟩
  · exact strikeArrives_behind h hroom hq hdue
  · exact strikeArrives_first h hroom hq

/-! ## Admission at the head (R94 to R96) -/

/-- What a blocked head is not (R95, case 4). -/
theorem headBlocked_eq_false_iff (q : StrikeRequest) (s : State) :
    headBlocked q s = false ↔ s.partLocked = false ∧ (s.chan q.bell).state ≠ .pulse ∧ (s.chan q.bell).state ≠ .recovery ∧
      s.st.sum + (s.bellProfile q.bell).current ≤ (s.lu.profile.map (·.iBudget)).getD 0 := by
  simp [headBlocked, and_assoc]

/-- What a firing decision says of the state it is made in: the first cases of R95 do not apply. -/
structure Admits (q : StrikeRequest) (g : Stages) (s : State) : Prop where
  due : q.due ≤ s.now
  present : s.bellPresent q.bell = true
  noFault : (s.chan q.bell).state ≠ .faultOff ∧ (s.chan q.bell).state ≠ .lockedOut
  unblocked : headBlocked q s = false
  unmuted : s.muted = false
  cool : thermalDrop (s.bellProfile q.bell) (stagesFor q s) = false
  stages : g = stagesFor q s

theorem judgeHead_fire {q : StrikeRequest} {g : Stages} {s : State} (h : judgeHead q s = .fire g) : Admits q g s := by
  unfold judgeHead at h
  split_ifs at h with hdue hpresent hfault hblocked hlate hmuted hcool
  obtain ⟨hoff, hout⟩ := not_or.mp hfault
  exact ⟨not_lt.mp hdue, by simpa using hpresent, ⟨hoff, hout⟩, Bool.eq_false_iff.mpr hblocked, Bool.eq_false_iff.mpr hmuted,
    Bool.eq_false_iff.mpr hcool, (HeadDecision.fire.inj h).symm⟩

/-- A channel that is neither at fault, nor in PULSE or RECOVERY, is READY or RETRY_READY. -/
theorem Admits.ready {q : StrikeRequest} {g : Stages} {s : State} (h : Admits q g s) :
    (s.chan q.bell).state = .ready ∨ (s.chan q.bell).state = .retryReady := by
  obtain ⟨hoff, hout⟩ := h.noFault
  obtain ⟨-, hpulse, hrecovery, -⟩ := (headBlocked_eq_false_iff q s).mp h.unblocked
  cases hs : (s.chan q.bell).state with
  | ready => exact .inl rfl
  | retryReady => exact .inr rfl
  | pulse => exact absurd hs hpulse
  | recovery => exact absurd hs hrecovery
  | faultOff => exact absurd hs hoff
  | lockedOut => exact absurd hs hout

theorem Admits.budget {q : StrikeRequest} {g : Stages} {s : State} (h : Admits q g s) :
    ∃ p, s.lu.profile = some p ∧ s.st.sum + (s.bellProfile q.bell).current ≤ p.iBudget := by
  obtain ⟨p, hp, -⟩ := (bellPresent_iff s q.bell).mp h.present
  obtain ⟨-, -, -, hbudget⟩ := (headBlocked_eq_false_iff q s).mp h.unblocked
  rw [hp] at hbudget
  exact ⟨p, hp, hbudget⟩

theorem judgeHead_late {q : StrikeRequest} {g : Option Stages} {s : State} (h : judgeHead q s = .drop .late g) :
    headBlocked q s = true ∧ q.due + s.slack < s.now := by
  unfold judgeHead at h
  split_ifs at h with hdue hpresent hfault hblocked hslack
  · cases h
  · cases h
  · exact ⟨hblocked, by omega⟩
  · cases h

/-- Settles O34: the cases of R95 that stand before a firing, and the one that stands before LATE. -/
theorem headIsFiredOnlyWhenAdmitted : Obligations.HeadIsFiredOnlyWhenAdmitted := by
  refine fun q s => ⟨fun g hj => ?_, fun g => judgeHead_late⟩
  have h := judgeHead_fire hj
  obtain ⟨hlocked, -⟩ := (headBlocked_eq_false_iff q s).mp h.unblocked
  exact ⟨h.due, h.present, h.ready, hlocked, h.unmuted, h.budget⟩

end Sys2Proof.Machine
end

section
/-! SUPPORT. The pulse computation (R103 to R106). -/

namespace Sys2Proof.Machine

/-- The clamp of the supply reading, by the bound that it meets (R104). -/
theorem clampSupply_eq (vn vm : Nat) :
    clampSupply vn vm = if vm < 3 * vn / 4 then 3 * vn / 4 else if 5 * vn / 4 < vm then 5 * vn / 4 else vm := by
  unfold clampSupply
  split_ifs <;> omega

theorem clampSupply_nominal (vn : Nat) : clampSupply vn vn = vn := by
  unfold clampSupply
  omega

section
variable (p : BellProfile) (vn vm velocity heat : Nat)

/-- At the nominal supply stage 2 changes no width within the limit (R104). -/
theorem w1_nominal (hvn : 0 < vn) (hlim : (computeStages p vn vn velocity heat).w0 ≤ p.wlim) :
    (computeStages p vn vn velocity heat).w1 = (computeStages p vn vn velocity heat).w0 := by
  have hscale : ∀ w : Nat, w * vn * vn / (clampSupply vn vn * clampSupply vn vn) = w := fun w => by
    rw [clampSupply_nominal, mul_assoc]
    exact Nat.mul_div_cancel w (Nat.mul_pos hvn hvn)
  simp only [computeStages, hscale] at hlim ⊢
  exact min_eq_left hlim

/-- Heat only shortens a width (R105). -/
theorem w2_le_w1 : (computeStages p vn vm velocity heat).w2 ≤ (computeStages p vn vm velocity heat).w1 := by
  simp only [computeStages]
  split_ifs with hmax hwarn
  · exact Nat.zero_le _
  · exact Nat.div_le_of_le_mul (by rw [mul_comm]; exact Nat.mul_le_mul_right _ (by omega))
  · exact le_rfl

theorem w3_le_wlim : (computeStages p vn vm velocity heat).w3 ≤ p.wlim :=
  (min_le_left _ _).trans ((w2_le_w1 p vn vm velocity heat).trans (min_le_right _ _))

theorem w3_le_room : (computeStages p vn vm velocity heat).w3 ≤ p.hmax - heat := min_le_right _ _

/-- A firing from a heat estimate within Hmax stays within it (R106). -/
theorem heat_add_w3_le (h : heat ≤ p.hmax) : heat + (computeStages p vn vm velocity heat).w3 ≤ p.hmax := by
  have hroom := w3_le_room p vn vm velocity heat
  omega

end

/-- Settles O32: the stages are the definition's own, and the bounds are those of the minima. -/
theorem pulseStaysWithinLimits : Obligations.PulseStaysWithinLimits := by
  intro p vn vm velocity heat g
  refine ⟨rfl, clampSupply_eq vn vm, (min_comm _ _).trans (min_def_lt _ _), ?_, rfl, min_def_lt _ _, w2_le_w1 .., w3_le_wlim .., w3_le_room ..,
    heat_add_w3_le p vn vm velocity heat, fun h => ?_⟩
  · rintro hvn rfl hlim
    exact w1_nominal p vm velocity heat hvn hlim
  · exact not_lt.mp (of_decide_eq_false h)

end Sys2Proof.Machine
end

section
/-! SUPPORT. The frame of strikes, and the instants of the strike queue and of pulses (R94, R100, R102, R113, R114). -/

namespace Sys2Proof.Machine

/-- Settles O36: each operation's frame, from the state itself. -/
theorem strikesTouchOnlyStrikes : Obligations.StrikesTouchOnlyStrikes := fun q b heard cut s =>
  have h := OnlyStrikes.refl s
  ⟨strikeArrives_onlyStrikes q h, examineStrikes_onlyStrikes h, flushStrikes_onlyStrikes h, endPulseClean_onlyStrikes b h,
    endRecovery_onlyStrikes b h, bellOverCurrent_onlyStrikes b h, openCoil_onlyStrikes b h, haltPulse_onlyStrikes cut b h,
    haltDamper_onlyStrikes b h, dampCommand_onlyStrikes b h, verdict_onlyStrikes b heard h,
    reportWarm_onlyStrikes (forEach_onlyStrikes (fun b _ => decayBell_onlyStrikes b) allBells h)⟩

section
variable {s : State} {b : Bell}

theorem strikeHeadDue_gives {q : StrikeRequest} {rest : List StrikeRequest} (hq : s.st.queue = q :: rest) (hdue : q.due ≤ s.now) :
    strikeHeadDue s = examineStrikes s := by simp [strikeHeadDue, hq, hdue]

theorem slackExpiry_gives {q : StrikeRequest} {rest : List StrikeRequest} (hq : s.st.queue = q :: rest)
    (hslack : q.due + s.slack + 1 ≤ s.now) : slackExpiry s = examineStrikes s :=
  if_pos (by simpa [hq] using hslack)

theorem pulseEnd_gives (hpulse : (s.chan b).state = .pulse) (hend : (s.chan b).pulseEnd ≤ s.now)
    (hseen : (s.chan b).presenceSeen = true) : pulseEnd b s = endPulseClean b s := by simp [pulseEnd, hpulse, hend, hseen]

theorem recoveryEnd_gives {e : Nat} (hrecovery : (s.chan b).state = .recovery) (hend : (s.chan b).recoveryEnd = some e)
    (he : e ≤ s.now) : recoveryEnd b s = endRecovery b s := by simp [recoveryEnd, hrecovery, hend, he]

theorem overCurrent_gives {e : Nat} (hpulse : (s.chan b).state = .pulse) (htrip : (s.chan b).tripAt = some e) (he : e ≤ s.now) :
    overCurrent b s = bellOverCurrent b s := by simp [overCurrent, hpulse, htrip, he]

/-- At the presence deadline a pulse whose presence was not seen is an open coil (R114). -/
theorem presenceDeadline_gives (hpulse : (s.chan b).state = .pulse) (hjudged : (s.chan b).presenceJudged = false)
    (he : min ((s.chan b).pulseStart + 2000) (s.chan b).pulseEnd ≤ s.now) :
    presenceDeadline b s =
      if (s.chan b).presenceSeen then s.modChan b fun c => { c with presenceJudged := true } else openCoil b s :=
  if_pos ⟨hpulse, he, by rw [hjudged]; rfl⟩

end

/-- Settles O29: each command's effect on the state of its instant. -/
theorem strikeInstants : Obligations.StrikeInstants := by
  intro dt b q rest s u hu
  refine ⟨fun hq hdue => ?_, fun hq hslack => ?_, fun hpulse hend hseen => ?_, fun e hrecovery hend he => ?_,
    fun e hpulse htrip he => ?_, fun hpulse hjudged he => ?_⟩
  · exact event_answers hu _ (strikeHeadDue_gives hq hdue)
  · exact event_answers hu _ (slackExpiry_gives hq hslack)
  · exact event_answers hu _ (pulseEnd_gives hpulse hend hseen)
  · exact event_answers hu _ (recoveryEnd_gives hrecovery hend he)
  · exact event_answers hu _ (overCurrent_gives hpulse htrip he)
  · exact event_answers hu _ (presenceDeadline_gives hpulse hjudged he)

end Sys2Proof.Machine
end

section
/-! SUPPORT. What a property of states must be kept by for every operation of the Strike Unit to keep it (`BellRules`): the reports and
records, a channel that goes easier, the end and the beginning of a pulse, a shorter queue and an arrival, and a damp command. -/

namespace Sys2Proof.Machine

/-- A channel goes easier: it keeps its admitted current, is no hotter, energizes no damper, and leaves its state only for another than
PULSE, a pulse only once its current is released. -/
structure Eases (c d : Channel) : Prop where
  admitted : d.admitted = c.admitted
  heat : d.heat ≤ c.heat
  damper : d.dampEnd = c.dampEnd ∨ d.dampEnd = none
  state : d.state = c.state ∨ d.state ≠ .pulse ∧ (c.state ≠ .pulse ∨ c.admitted = 0)

/-- CLEAR_FAULT moves no channel out of PULSE (R118). -/
theorem clearFault_eases (c : Channel) : Eases c c.clearFault := by
  unfold Channel.clearFault
  cases hs : c.state with
  | pulse | recovery | ready => exact ⟨rfl, le_rfl, .inl rfl, .inl hs.symm⟩
  | faultOff | retryReady | lockedOut => exact ⟨rfl, le_rfl, .inl rfl, .inr ⟨nofun, .inl (hs.trans_ne nofun)⟩⟩

theorem decayHeat_le (n heat : Nat) : decayHeat n heat ≤ heat := by
  unfold decayHeat
  split <;> exact Nat.sub_le _ _

/-- The profile, the mute reason set, the queue, the sum and the coils are all that the property is about; a firing is one that an
examination decides, and an arriving request is placed only where none stands in its way (R92). -/
structure BellRules (P : State → Prop) : Prop where
  same : ∀ {s t : State}, SameBells s t → P s → P t
  ease : ∀ (b : Bell) {f : Channel → Channel} {s : State}, Eases (s.chan b) (f (s.chan b)) → P s → P (s.modChan b f)
  release : ∀ (b : Bell) (n : PulseEndKind) {s : State}, P s → P (releaseCoil b n s)
  fire : ∀ {q : StrikeRequest} {g : Stages} {s : State}, judgeHead q s = .fire g → P s → P (fireStrike q g s)
  shorten : ∀ {l : List StrikeRequest} {s : State}, l <:+ s.st.queue → P s → P (setStrikes l s)
  place : ∀ (q : StrikeRequest) {s : State}, s.muted = false → s.st.queue.length < 32 → P s → P (setStrikes (insertStrike q s.st.queue) s)
  damp : ∀ (b : Bell) (e : Nat) {s : State}, s.halted = false → P s → P (s.modChan b fun c => { c with dampEnd := some e })

namespace BellRules

variable {P : State → Prop} {s t : State} (k : BellRules P)
include k

/-! ## What leaves the Strike Unit alone -/

/-- All that the property can see of what is not the Strike Unit are the working profile and the mute reason set. -/
theorem beside (h : P s) (he : (t.st, t.lu.profile, t.sv.mute) = (s.st, s.lu.profile, s.sv.mute)) : P t := by
  simp only [Prod.mk.injEq] at he
  obtain ⟨hst, hprofile, hmute⟩ := he
  exact k.same (.beside hst hprofile hmute) h

theorem motion (g : OnlyMotion s t) (h : P s) : P t := k.same (.beside g.st (by rw [g.lu]) (by rw [g.sv])) h

/-! ## Updates of a channel's records -/

theorem record (b : Bell) {f : Channel → Channel} (hf : (f (s.chan b)).coil = (s.chan b).coil) (h : P s) : P (s.modChan b f) :=
  k.same (modChan_sameBells b hf (.refl s)) h

theorem modPins_kept (f : Pins → Pins) (h : P s) : P (s.modPins f) := k.beside h rfl

theorem modPe_kept (f : PerformanceEngine → PerformanceEngine) (h : P s) : P (s.modPe f) := k.beside h rfl

theorem raise_kept (n : Kind) (h : P s) : P (raise n s) := k.beside h rfl

theorem judgeThermal_kept (b : Bell) (h : P s) : P (judgeThermal b s) := k.same (judgeThermal_sameBells b (.refl s)) h

theorem reportWarm_kept (h : P s) : P (reportWarm s) := k.beside h rfl

theorem verdict_kept (b : Bell) (heard : Bool) (h : P s) : P (verdict b heard s) := k.same (verdict_sameBells b heard (.refl s)) h

theorem dropStrike_kept (r : DropReason) (g : Option Stages) (q : StrikeRequest) (h : P s) : P (dropStrike r g q s) :=
  k.same (dropStrike_sameBells r g q (.refl s)) h

/-! ## The queue (R91 to R97) -/

/-- An examination drops and fires heads, and what it leaves is a tail of the queue (R94). -/
theorem examineFrom_kept : ∀ (l : List StrikeRequest) {s : State}, l <:+ s.st.queue → P s → P (examineFrom l s)
  | [], _, hl, h => k.shorten hl h
  | q :: rest, s, hl, h => by
    have hrest : rest <:+ s.st.queue := (List.suffix_cons q rest).trans hl
    unfold examineFrom
    cases hj : judgeHead q s with
    | wait => exact k.shorten hl h
    | drop r g => exact examineFrom_kept rest (by rwa [dropStrike_queue]) (k.dropStrike_kept r g q h)
    | fire g => exact examineFrom_kept rest (by rwa [fireStrike_queue]) (k.fire hj h)

theorem examineStrikes_kept (h : P s) : P (examineStrikes s) := k.examineFrom_kept _ List.suffix_rfl h

theorem strikeArrives_kept (q : StrikeRequest) (h : P s) : P (strikeArrives q s) := by
  obtain ⟨r, he⟩ | ⟨hm, hroom, he | he⟩ := strikeArrives_cases q s <;> rw [he]
  · exact k.dropStrike_kept r none q h
  · exact k.place q hm hroom h
  · exact k.examineStrikes_kept (k.place q hm hroom h)

theorem dropStrikes_kept (r : DropReason) (h : P s) : P (dropStrikes r s) :=
  k.shorten List.nil_suffix (forEach_keeps (fun q _ h => k.dropStrike_kept r none q h) s.st.queue s h)

/-! ## Ends of a pulse (R100, R101) -/

theorem cutPulse_kept (b : Bell) (n : PulseEndKind) (h : P s) : P (cutPulse b n s) :=
  k.same (cutPulse_sameBells b n s) (k.release b n h)

/-- A channel that is not in PULSE, or whose pulse's current is released, goes to another state than PULSE. -/
theorem leave_kept {b : Bell} {f : Channel → Channel} {x : ChannelState} {e : Option Nat} (hx : x ≠ .pulse)
    (ha : (s.chan b).state ≠ .pulse ∨ (s.chan b).admitted = 0) (hf : (f (s.chan b)).coil = { (s.chan b).coil with state := x, recoveryEnd := e }) (h : P s) :
    P (s.modChan b f) :=
  k.ease b ⟨congrArg Coil.admitted hf, (congrArg Coil.heat hf).le, .inl (congrArg Coil.dampEnd hf),
    .inr ⟨(congrArg Coil.state hf).trans_ne hx, ha⟩⟩ h

theorem enterRecovery_kept {b : Bell} (ha : (s.chan b).admitted = 0) (h : P s) : P (enterRecovery b s) :=
  k.leave_kept (f := fun c => { c with state := .recovery, recoveryEnd := some (s.now + (s.bellProfile b).trec * 1000) })
    (x := .recovery) nofun (.inr ha) rfl h

theorem endPulseClean_kept (b : Bell) (h : P s) : P (endPulseClean b s) := by
  have hrelease := k.release b .clean h
  have hcount := k.record b (f := fun c => { c with faultCount := if c.trial then 0 else c.faultCount, trial := false }) rfl hrelease
  refine k.examineStrikes_kept (k.same (verifyCleanEnd_sameBells b (.refl _)) (k.enterRecovery_kept ?_ hcount))
  rw [modChan_chan_self]
  exact congrArg Coil.admitted (releaseCoil_coil b .clean s)

theorem openCoil_kept (b : Bell) (h : P s) : P (openCoil b s) :=
  k.examineStrikes_kept (k.raise_kept _
    (k.leave_kept (x := .lockedOut) nofun (.inr (cutPulse_admitted b _ s)) rfl (k.cutPulse_kept b .openCoil h)))

theorem bellOverCurrent_kept (b : Bell) (h : P s) : P (bellOverCurrent b s) := by
  have hx : ∀ off : Bool, (if off then ChannelState.faultOff else .lockedOut) ≠ .pulse := by decide
  unfold bellOverCurrent
  exact k.examineStrikes_kept (k.raise_kept _
    (k.leave_kept (hx _) (.inr (cutPulse_admitted b _ s)) rfl (k.cutPulse_kept b .overcurrent h)))

/-- A pulse that a halt cuts is over, and its channel recovers (R101, R117). -/
theorem cutByHalt_kept (b : Bell) (h : P s) : P (enterRecovery b (cutPulse b .halt s)) :=
  k.enterRecovery_kept (cutPulse_admitted b .halt s) (k.cutPulse_kept b .halt h)

theorem haltPulses_kept (cut : Bool) (h : P s) : P (haltPulses cut s) := haltPulses_keeps (fun b _ _ => k.cutByHalt_kept b) cut h

/-! ## A channel out of PULSE (R102, R116, R118) -/

theorem endRecovery_kept {b : Bell} (hs : (s.chan b).state = .recovery) (h : P s) : P (endRecovery b s) := by
  have hx : ∀ trial : Bool, (if trial then ChannelState.retryReady else .ready) ≠ .pulse := by decide
  exact k.examineStrikes_kept (k.leave_kept (hx _) (.inl (hs.trans_ne nofun)) rfl h)

theorem endOffTime_kept {b : Bell} (hs : (s.chan b).state = .faultOff) (h : P s) :
    P (examineStrikes (s.modChan b fun c => { c with state := .retryReady, offEnd := none })) :=
  k.examineStrikes_kept (k.leave_kept (x := .retryReady) nofun (.inl (hs.trans_ne nofun)) rfl h)

/-! ## Heat and dampers (R51, R121 to R125) -/

/-- A channel cools down. -/
theorem cool_kept (b : Bell) {f : Channel → Channel} {heat : Nat} (hheat : heat ≤ (s.chan b).heat)
    (hf : (f (s.chan b)).coil = { (s.chan b).coil with heat := heat }) (h : P s) : P (s.modChan b f) :=
  k.ease b ⟨congrArg Coil.admitted hf, (congrArg Coil.heat hf).trans_le hheat, .inl (congrArg Coil.dampEnd hf),
    .inl (congrArg Coil.state hf)⟩ h

theorem decayBell_kept (b : Bell) (h : P s) : P (decayBell b s) := by
  unfold decayBell
  split
  · exact k.judgeThermal_kept b (k.cool_kept b (decayHeat_le _ _) rfl h)
  · exact h

theorem adoptProfileBell_kept (b : Bell) (h : P s) : P (adoptProfileBell b s) := by
  unfold adoptProfileBell
  split
  · exact k.judgeThermal_kept b (k.cool_kept b (min_le_left _ _) rfl h)
  · exact k.judgeThermal_kept b h

theorem adoptBells_kept (h : P s) : P (adoptBells s) :=
  k.reportWarm_kept (forEach_keeps (fun b _ => k.adoptProfileBell_kept b) allBells _ h)

theorem dampOff_kept (b : Bell) (h : P s) : P (s.modChan b fun c => { c with dampEnd := none }) :=
  k.ease b ⟨rfl, le_rfl, .inr rfl, .inl rfl⟩ h

theorem dampCommand_kept (b : Bell) (h : P s) : P (dampCommand b s) := by
  unfold dampCommand
  dsimp only
  split
  · next hd => exact k.damp b _ (by simpa using (Bool.and_eq_true_iff.mp hd).2) h
  · exact h

/-! ## The halt (R93, R174) -/

theorem stopSelfTest_kept (c : TestCause) (h : P s) : P (stopSelfTest c s) := ite_kept (k.beside h rfl) h

theorem haltTower_kept (h : P s) : P (haltTower s) := by
  refine forEach_keeps (fun d s h => k.motion (haltDoor_onlyMotion d (.refl s)) h) allAxes _ ?_
  refine forEach_keeps (f := fun a s => s.modAxis a (·.halt)) (fun a s h => k.beside h rfl) allAxes _ ?_
  exact forEach_keeps (fun b s h => k.dampOff_kept b h) allBells _ h

end BellRules

end Sys2Proof.Machine
end

section
/-! SUPPORT. The Schedule Unit, the Library Unit and the Performance Engine keep what `BellRules` asks for: strikes and dampers are reached
through the score and the self-test alone, and the working profile changes only where a walk ends. -/

namespace Sys2Proof.Machine

/-- The arbiter's grant is no matter of the working profile (R42). -/
theorem grant_profile (u : LibraryUnit) : u.grant.profile = u.profile := by
  unfold LibraryUnit.grant
  split
  · rfl
  · split
    · rfl
    · split
      · rfl
      · split <;> rfl

namespace BellRules

variable {P : State → Prop} {s u : State} (k : BellRules P)
include k

/-! ## The Schedule Unit -/

theorem postRequest_kept (r : ShowRequest) (h : P s) : P (postRequest r s) := by
  obtain ⟨-, he⟩ | ⟨q, -, he⟩ | he := postRequest_cases r s <;> rw [he] <;> exact k.beside h rfl

theorem judgeTrigger_kept (t : Nat) (old : Bool) (h : P s) : P (judgeTrigger t old s) := by
  unfold judgeTrigger
  split
  · exact h
  · refine ite_kept (k.beside h rfl) ?_
    split
    · exact k.beside h rfl
    · exact ite_kept (k.beside h rfl) (ite_kept (k.beside h rfl) (k.postRequest_kept _ h))

theorem setRecord_kept (r : TriggerRecord) (h : P s) : P (setRecord r s) := k.beside h rfl

theorem skipPassed_kept (c : Option Nat) : ∀ (n t : Nat) {s : State}, P s → P (skipPassed c n t s)
  | 0, _, _, h => h
  | n + 1, t, _, h => skipPassed_kept c n (t + 1) (ite_kept h (k.beside h rfl))

theorem catchUp_kept (before after : Nat) (h : P s) : P (catchUp before after s) := by
  have hs := fun c n t => k.skipPassed_kept c n t h
  unfold catchUp
  refine ite_kept h ?_
  dsimp only
  split
  · exact k.setRecord_kept _ (hs _ _ _)
  · exact k.setRecord_kept _ (k.judgeTrigger_kept _ _ (hs _ _ _))

theorem stepBack_kept (after : Nat) (h : P s) : P (stepBack after s) := by
  unfold stepBack
  split
  · exact h
  · exact ite_kept (k.setRecord_kept _ h) h

theorem evaluateSeason_kept (h : P s) : P (evaluateSeason s) := k.beside h rfl

theorem applyStep_kept (delta : Int) (src : StepSource) (h : P s) : P (applyStep delta src s) := by
  have he : P (evaluateSeason (raise .timeStepped (s.modTb (·.stepBy delta src)))) := k.beside h rfl
  unfold applyStep scheduleStep
  dsimp only
  split
  · exact ite_kept (k.catchUp_kept _ _ he) (ite_kept (k.stepBack_kept _ he) he)
  · split
    · exact k.setRecord_kept _ he
    · exact he

theorem applyPending_kept (h : P s) : P (applyPending s) := by
  unfold applyPending
  split
  · exact h
  · exact k.applyStep_kept _ _ (k.beside h rfl)

theorem flushQueue_kept (h : P s) : P (flushQueue s) :=
  k.beside (forEach_keeps (f := fun _ => countSuppressed) (fun _ _ h => k.beside h rfl) s.su.queue s h) rfl

/-! ## The Library Unit -/

/-- A change of the Library Unit that leaves the working profile. -/
theorem modLu_kept {f : LibraryUnit → LibraryUnit} (hf : (f s.lu).profile = s.lu.profile) (h : P s) : P (s.modLu f) :=
  k.same (.beside (s := s) rfl hf rfl) h

theorem grantPort_kept (h : P s) : P (grantPort s) := k.modLu_kept (grant_profile s.lu) h

theorem freePort_kept (h : P s) : P (freePort s) := k.beside h rfl

theorem useRecord_kept (r : RecordHeader) (p : List Byte) (h : P s) : P (useRecord r p s) := by
  unfold useRecord
  split
  · exact ite_kept (k.beside h rfl) (k.beside h rfl)
  · exact ite_kept (k.beside h rfl) (ite_kept (k.beside h rfl) (k.beside h rfl))
  · exact ite_kept (k.beside h rfl) (ite_kept (k.beside h rfl) (k.beside h rfl))
  · exact ite_kept (k.beside h rfl) (ite_kept (k.beside h rfl) (k.beside h rfl))
  · exact ite_kept (k.beside h rfl) (ite_kept (k.beside h rfl) (k.beside h rfl))
  · exact h
  · exact k.beside h rfl

theorem followPointer_kept (current next : Nat) (h : P s) : P (followPointer current next s).1 := by
  unfold followPointer
  split
  · exact h
  · exact k.beside h rfl

theorem walkStep_kept (ph : WalkPhase) (data : List Byte) (h : P s) : P (walkStep ph data s).1 := by
  unfold walkStep visitRecord readRecord
  dsimp only
  split
  · split <;> exact k.beside h rfl
  · split
    · exact k.followPointer_kept _ _ h
    · exact h
  · split
    · exact k.followPointer_kept _ _ (k.beside h rfl)
    · exact k.beside h rfl
  · split_ifs
    · exact k.beside h rfl
    · exact k.followPointer_kept _ _ (k.useRecord_kept _ _ h)
    · exact k.followPointer_kept _ _ (k.beside h rfl)

theorem modSu_kept (f : ScheduleUnit → ScheduleUnit) (h : P s) : P (s.modSu f) := k.beside h rfl

theorem modReport_kept (f : WalkReport → WalkReport) (h : P s) : P (modReport f s) := k.beside h rfl

theorem loadSeasons_kept (p : List Byte) (h : P s) : P (loadSeasons p s) := by
  unfold loadSeasons
  exact k.modReport_kept _ (k.modSu_kept _ h)

theorem loadProgrammes_kept (p : List Byte) (h : P s) : P (loadProgrammes p s) := by
  unfold loadProgrammes
  exact k.modReport_kept _ (k.modSu_kept _ h)

theorem loadTables_kept (w : Walk) (h : P s) : P (loadTables w s) := by
  unfold loadTables
  refine k.evaluateSeason_kept ?_
  cases w.seasonsBody with
  | none =>
    cases w.programmesBody with
    | none => exact h
    | some q => exact k.loadProgrammes_kept q h
  | some p =>
    cases w.programmesBody with
    | none => exact k.loadSeasons_kept p h
    | some q => exact k.loadProgrammes_kept q (k.loadSeasons_kept p h)

theorem holdResult_kept (o : StoreOp) (out : StoreOutcome) (data : List Byte) (h : P s) : P (holdResult o out data s) := k.beside h rfl

theorem takeStoreOp_kept (o : StoreOp) (h : P s) : P (takeStoreOp o s) := k.modLu_kept (grant_profile _) h

theorem setStorePhase_kept (ph : StorePhase) (h : P s) : P (setStorePhase ph s) := k.beside h rfl

/-! ## Prefetch, the queue's head and the triggers -/

theorem requestReadsFor_kept : ∀ (fuel : Nat) {s : State}, P s → P (requestReadsFor fuel s)
  | 0, _, h => h
  | fuel + 1, s, h => by
    unfold requestReadsFor
    split
    · exact h
    · exact requestReadsFor_kept fuel (k.beside h rfl)

theorem requestReads_kept (h : P s) : P (requestReads s) := k.grantPort_kept (k.requestReadsFor_kept 16 h)

theorem demandDoors_kept (set : AxisSet) (f : DoorRecord → DoorRecord) (h : P s) : P (demandDoors set f s) :=
  k.motion (demandDoors_onlyMotion set f (.refl s)) h

theorem takeRequest_kept (r : ShowRequest) (e : DirEntry) (h : P s) : P (takeRequest r e s) :=
  k.demandDoors_kept _ _ (k.requestReads_kept (k.modPe_kept _ h))

theorem examineHeads_kept : ∀ (l : List ShowRequest) {s : State}, P s → P (examineHeads l s)
  | [], _, h => k.beside h rfl
  | r :: rest, s, h => by
    unfold examineHeads
    refine ite_kept (examineHeads_kept rest (k.beside h rfl)) ?_
    split
    · exact examineHeads_kept rest (k.beside h rfl)
    · exact ite_kept (examineHeads_kept rest (k.beside h rfl))
        (ite_kept (k.beside h rfl) (k.takeRequest_kept _ _ (k.beside h rfl)))

theorem examineQueue_kept (h : P s) : P (examineQueue s) := ite_kept (k.examineHeads_kept _ h) h

theorem examineNewHead_kept (before : State) (h : P s) : P (examineNewHead before s) := ite_kept h (k.examineQueue_kept h)

theorem nextTriggerHandled_kept (h : P s) : P (nextTriggerHandled s) := by
  obtain he | ⟨t, -, -, he⟩ := nextTriggerHandled_cases s <;> rw [he]
  · exact h
  · exact k.examineNewHead_kept s (k.setRecord_kept _ (k.judgeTrigger_kept t false h))

theorem recomputeTrigger_kept (h : P s) : P (recomputeTrigger s) :=
  recomputeTrigger_keeps (P := P) (fun _ => k.nextTriggerHandled_kept) h

/-! ## The Performance Engine: the score -/

theorem strikeEvent_kept (bell velocity : Nat) (h : P s) : P (strikeEvent bell velocity s) := by
  unfold strikeEvent
  refine ite_kept h ?_
  split
  · exact k.beside h rfl
  · exact ite_kept (k.strikeArrives_kept _ h) (k.beside h rfl)

theorem dampEvent_kept (bell : Nat) (h : P s) : P (dampEvent bell s) := by
  unfold dampEvent
  split
  · exact k.beside h rfl
  · exact ite_kept (k.dampCommand_kept _ h) (k.beside h rfl)

theorem cueEvent_kept (axis : Nat) (isList : Bool) (number : Nat) (h : P s) : P (cueEvent axis isList number s) := by
  unfold cueEvent
  refine ite_kept h ?_
  split
  · exact k.beside h rfl
  · refine ite_kept (k.beside h rfl) (k.motion (settleMotion_onlyMotion ?_) h)
    split
    · split
      · exact startList_onlyMotion _ _ _ (.refl s)
      · exact .refl s
    · exact give_onlyMotion _ _ (.refl s)

theorem waitEvent_kept (axis seconds : Nat) (h : P s) : P (waitEvent axis seconds s) := by
  unfold waitEvent
  split
  · exact h
  · exact ite_kept h (ite_kept (k.beside h rfl) (k.beside h rfl))

theorem enterCoda_kept (r : PerfResult) (h : P s) : P (enterCoda r s) := by
  unfold enterCoda
  refine k.demandDoors_kept _ _ (forEach_keeps (fun a s h => ?_) allAxes _ (k.beside h rfl))
  exact ite_kept (k.motion (sendHomeAfterStep_onlyMotion a (.refl s)) h) h

/-- The end of an event that is no loop mark (R66, R73). -/
theorem passed_kept (i : Nat) (h : P s) : P (abandonRetention (passEvent i s)) := by
  unfold abandonRetention
  split
  · exact k.beside h rfl
  · exact ite_kept (k.beside h rfl) (k.beside h rfl)

theorem countEnd_kept (l : LoopRecord) (h : P s) : P (countEnd l s) :=
  ite_kept (k.beside h rfl) (ite_kept (k.beside h rfl) (k.beside h rfl))

theorem carryOut_kept (i : Nat) (ev : Event) (h : P s) (hc : carryOut i ev s = some u) : P u := by
  unfold carryOut at hc
  cases ev with
  | strike => cases hc; exact k.passed_kept i (k.strikeEvent_kept _ _ h)
  | damp => cases hc; exact k.passed_kept i (k.dampEvent_kept _ h)
  | tempo | ramp =>
    dsimp only at hc
    split at hc
    · cases hc
    · cases hc; exact k.passed_kept i (k.beside h rfl)
  | cue => cases hc; exact k.passed_kept i (k.cueEvent_kept _ _ _ h)
  | waitAxis => cases hc; exact k.passed_kept i (k.waitEvent_kept _ _ h)
  | countBegin =>
    dsimp only at hc
    split at hc
    · cases hc
    · cases hc; exact k.beside h rfl
  | countEnd =>
    dsimp only at hc
    split at hc
    · cases hc
    · cases hc; exact k.countEnd_kept _ (k.beside h rfl)
  | mark => cases hc; exact k.passed_kept i (k.beside h rfl)
  | finish =>
    dsimp only at hc
    split at hc
    · cases hc
    · cases hc; exact k.enterCoda_kept _ (k.beside h rfl)
  | unknown => cases hc

theorem scoreError_kept (h : P s) : P (scoreError s) := k.enterCoda_kept _ (k.beside h rfl)

theorem runEventsFor_kept : ∀ (fuel : Nat) {s : State}, P s → P (runEventsFor fuel s)
  | 0, _, h => h
  | fuel + 1, s, h => by
    unfold runEventsFor
    refine ite_kept (ite_kept (ite_kept (k.scoreError_kept h) (k.enterCoda_kept _ h)) ?_) h
    split
    · exact k.beside h rfl
    · refine ite_kept (k.beside h rfl) ?_
      split
      · exact k.scoreError_kept h
      · next hc =>
        have hu := k.carryOut_kept _ _ h hc
        exact runEventsFor_kept fuel (ite_kept (k.requestReads_kept hu) hu)

theorem runEvents_kept (h : P s) : P (runEvents s) := k.runEventsFor_kept 4096 h

theorem releaseHold_kept (h : P s) : P (releaseHold s) := k.runEvents_kept (k.beside h rfl)

theorem startPlaying_kept (h : P s) : P (startPlaying s) := k.runEvents_kept (k.beside h rfl)

/-! ## The ends of a performance and of a self-test, and steps -/

theorem autoTransfer_kept (h : P s) : P (autoTransfer s) :=
  ite_kept (k.raise_kept _ (k.same (qualityTransfer_sameBells (.refl s)) h)) h

theorem writeLog_kept (h : P s) : P (writeLog s) := by
  unfold writeLog
  split
  · exact h
  · exact k.beside h rfl

theorem enterIdle_kept (h : P s) : P (enterIdle s) := by
  have hlog := fun f => k.autoTransfer_kept (k.raise_kept .showEnded (k.writeLog_kept (s := modPerf f s) (k.beside h rfl)))
  unfold enterIdle
  exact k.examineQueue_kept (k.applyPending_kept (k.beside (hlog _) rfl))

theorem abortToIdle_kept (r : PerfResult) (owe : Bool) (h : P s) : P (abortToIdle r owe s) :=
  k.enterIdle_kept (k.modPe_kept _ (k.demandDoors_kept _ _ (k.beside h rfl)))

theorem abortToCoda_kept (r : PerfResult) (h : P s) : P (abortToCoda r s) := by
  unfold abortToCoda
  split
  iterate 2 exact k.enterCoda_kept r h
  all_goals exact h

theorem handOver_kept (b : Bell) (rest : List Bell) (h : P s) : P (handOver b rest s) :=
  k.strikeArrives_kept _ (k.beside h rfl)

theorem endSelfTest_kept (h : P s) : P (endSelfTest s) := k.examineQueue_kept (k.applyPending_kept (k.beside h rfl))

theorem offerStep_kept (delta : Int) (src : StepSource) (h : P s) : P (offerStep delta src s) := by
  unfold offerStep
  split
  iterate 2 exact k.examineQueue_kept (k.applyStep_kept delta src (k.beside h rfl))
  all_goals exact k.beside h rfl

end BellRules

end Sys2Proof.Machine
end

section
/-! SUPPORT. The Supervision Unit and the effects of the commands keep what `BellRules` asks for and the additions to the mute reason set,
the adoption of a profile and the two resets keep (`TowerRules`); so does every step. -/

namespace Sys2Proof.Machine

/-- The set as the reason leaves it, and the flush where it is the first (R173). -/
def flushedFor (r : MuteReason) (s : State) : State := if s.muted then setReason r true s else firstReason (setReason r true s)

/-- The pulses as the reason leaves them (R101, R174). -/
def cutFor (first : Bool) (r : MuteReason) (s : State) : State :=
  if r.isHalt then haltPulses (haltCuts first s) (flushedFor r s) else flushedFor r s

/-- The tower once a reason is in the set and what follows from it is done, before the engine's part (R173, R174). -/
def reasonAdded (first : Bool) (r : MuteReason) (s : State) : State :=
  if (setReason r true s).halted && !s.halted then haltTower (cutFor first r s) else cutFor first r s

theorem addReasonWith_eq (first : Bool) (r : MuteReason) (s : State) :
    addReasonWith first r s = if s.sv.mute.has r then s else reasonToEngine r (reasonAdded first r s) := rfl

/-- The two ways in which the part adds a reason: one whose halt cuts the pulses it finds, and the SUPPLY of a walk that ends NONE (log
entry 52). -/
def CutsAsRuled (first : Bool) (r : MuteReason) : Prop := first = true ∨ r = .supply ∧ first = Config.walkEndCutsPulses

theorem dropAbsent_onlyMotion (s : State) : OnlyMotion s (dropAbsent s) := by
  refine forEach_onlyMotion (fun a t h => ?_) allAxes (.refl s)
  split
  · exact h
  · exact modAxis_onlyMotion a _ h

/-- The rules of the bells, and what the Supervision Unit, the end of a walk and the resets do to them; a property of the bells under one
profile is one under the next once each bell has adopted it (R51). -/
structure TowerRules (P : State → Prop) : Prop extends BellRules P where
  reason : ∀ {first : Bool} {r : MuteReason} {s : State}, CutsAsRuled first r → s.sv.mute.has r = false → P s → P (reasonAdded first r s)
  unmute : ∀ (r : MuteReason) {s : State}, P s → P (setReason r false s)
  adopt : ∀ {s t : State}, t.st = s.st → t.sv.mute = s.sv.mute → P s → P (adoptBells t)
  softReset : ∀ {s : State}, P s → P (softReset s)
  powerOn : ∀ (b1 b0 : Bool) {s : State}, P s → P (powerOn b1 b0 s)

namespace TowerRules

variable {P : State → Prop} {s : State} (k : TowerRules P)
include k

/-! ## The mute reason set and the monitors -/

theorem reasonToEngine_kept (r : MuteReason) (h : P s) : P (reasonToEngine r s) := by
  unfold reasonToEngine
  split
  · split
    iterate 2 exact k.beside h rfl
    all_goals exact h
  · exact ite_kept (k.abortToIdle_kept _ _ h) h
  all_goals exact h

theorem addReasonWith_kept {first : Bool} {r : MuteReason} (hcut : CutsAsRuled first r) (h : P s) : P (addReasonWith first r s) := by
  rw [addReasonWith_eq]
  split
  · exact h
  · next hr => exact k.reasonToEngine_kept r (k.reason hcut (Bool.eq_false_iff.mpr hr) h)

theorem addReason_kept (r : MuteReason) (h : P s) : P (addReason r s) := k.addReasonWith_kept (.inl rfl) h

theorem removeReason_kept (r : MuteReason) (h : P s) : P (removeReason r s) := by
  unfold removeReason
  cases r with
  | supply | thermal => exact k.modPe_kept _ (k.unmute _ h)
  | operator | hush | service => exact k.unmute _ h

theorem putReason_kept (r : MuteReason) (v : Bool) (h : P s) : P (putReason r v s) :=
  ite_kept (k.addReason_kept r h) (k.removeReason_kept r h)

theorem judgeSupply_kept (vm : Nat) (h : P s) : P (judgeSupply vm s) := by
  unfold judgeSupply
  split
  · exact h
  · exact k.putReason_kept _ _ (k.beside h rfl)

theorem takeSample_kept (x : Nat) (h : P s) : P (takeSample x s) := by
  unfold takeSample
  dsimp only
  split
  · exact k.beside h rfl
  · exact k.judgeSupply_kept _ (k.beside h rfl)

theorem takeDieReading_kept (c : Int) (h : P s) : P (takeDieReading c s) := k.putReason_kept _ _ (k.beside h rfl)

theorem endBlocks_kept (h : P s) : P (endBlocks s) := by
  unfold endBlocks
  dsimp only
  split
  · exact k.beside h rfl
  · exact ite_kept (k.removeReason_kept _ (k.beside h rfl)) (ite_kept (k.addReason_kept _ (k.beside h rfl)) (k.beside h rfl))

/-! ## The presentation state -/

theorem enterPresentation_kept (p : Presentation) (h : P s) : P (enterPresentation p s) := by
  cases p with
  | run | quiet => exact k.examineQueue_kept (k.beside h rfl)
  | locked | still | servicePending | serviceReady | service => exact k.flushQueue_kept (k.beside h rfl)

theorem modFigures_kept (f : AxisRecord → AxisRecord) (h : P s) : P (forFigures (fun a s => s.modAxis a f) s) :=
  forFigures_keeps (fun a s _ h => k.beside (t := s.modAxis a f) h rfl) h

theorem owePark_kept (v : Bool) (h : P s) : P (owePark v s) := k.beside h rfl

theorem becomeLocked_kept (h : P s) : P (becomeLocked s) := by
  have h1 := forEach_keeps (f := fun a s => s.modAxis a (·.lock)) (fun a _ h => k.beside h rfl) allAxes _ h
  have h2 := forEach_keeps (fun d s h => k.motion (syncMembers_onlyMotion d (.refl s)) h) allAxes _ h1
  have h3 := k.owePark_kept false (forEach_keeps (f := readDoor) (fun d _ h => k.beside h rfl) allAxes _ h2)
  unfold becomeLocked
  dsimp only
  split
  iterate 3 exact k.enterPresentation_kept _ h3
  all_goals exact h3

/-! ## The end of a walk and of a store operation -/

theorem makeReady_kept (h : P s) : P (makeReady s) := by
  have h1 : P (forFigures requestHome (raise .directoryReady s)) :=
    forFigures_keeps (fun a s _ h => k.motion (requestHome_onlyMotion a (.refl s)) h) (k.raise_kept _ h)
  have h2 := k.demandDoors_kept (BitVec.allOnes 8) DoorRecord.park h1
  unfold makeReady
  exact k.examineStrikes_kept (ite_kept (k.enterPresentation_kept _ h2) h2)

theorem lockOutSupply_kept (h : P s) : P (lockOutSupply s) := k.addReasonWith_kept (.inr ⟨rfl, rfl⟩) (k.beside h rfl)

theorem endWalk_kept (r : WalkReason) (h : P s) : P (endWalk r s) := by
  unfold endWalk
  split
  · exact h
  · next w _ =>
    have hadopt : ∀ f, P (adoptBells (dropAbsent (s.modLu f))) := fun f =>
      k.adopt (s := s) (dropAbsent_onlyMotion (s.modLu f)).st (congrArg SupervisionUnit.mute (dropAbsent_onlyMotion (s.modLu f)).sv) h
    have hlock := fun f => ite_kept (p := walkOutcome r w.install s.lu.report.badCrc = .absent)
      (k.lockOutSupply_kept (k.dropStrikes_kept .channelFault (hadopt f))) (hadopt f)
    have hload := fun f => k.recomputeTrigger_kept (k.loadTables_kept w (hlock f))
    have hready := fun f => ite_kept (p := walkOutcome r w.install s.lu.report.badCrc = .absent) (hload f) (k.makeReady_kept (hload f))
    dsimp only
    split
    · exact ite_kept (k.holdResult_kept _ _ _ (hready _)) (hready _)
    · exact hready _

theorem endStoreOp_kept (o : StoreOp) (out : StoreOutcome) (data : List Byte) (h : P s) : P (endStoreOp o out data s) := by
  unfold endStoreOp
  split
  · exact k.holdResult_kept o out data h
  · exact k.recomputeTrigger_kept (k.holdResult_kept o out data (ite_kept (k.becomeLocked_kept (k.beside h rfl)) (k.beside h rfl)))

theorem storeStep_kept (o : StoreOp) (data : List Byte) (h : P s) : P (storeStep o data s) := by
  unfold storeStep
  split
  · exact ite_kept (k.setStorePhase_kept _ h) (k.setStorePhase_kept _ h)
  · exact k.endStoreOp_kept o _ _ h
  · exact k.setStorePhase_kept _ h
  · exact k.setStorePhase_kept _ h
  · exact ite_kept (k.setStorePhase_kept _ h) (k.endStoreOp_kept o _ _ h)
  · exact h

/-! ## Service -/

theorem setLamp_kept (l : Lamp) (h : P s) : P (setLamp l s) := k.beside h rfl

/-- The lamp's and the notice's part of a service transition. -/
theorem serviceState_kept (l : Lamp) (h : P s) : P (raise .serviceState (setLamp l s)) := k.raise_kept _ (k.setLamp_kept l h)

theorem enterServicePending_kept (h : P s) : P (enterServicePending s) := by
  unfold enterServicePending
  exact k.serviceState_kept _ (k.owePark_kept _ (k.stopSelfTest_kept _ (k.abortToCoda_kept _ (k.enterPresentation_kept _ h))))

theorem leaveService_kept (h : P s) : P (leaveService s) := by
  have hfigures := k.modFigures_kept (·.leaveService) (k.removeReason_kept .service h)
  have hdoors := forEach_keeps (f := fun d s => if s.isDoor d then (readDoor d s).modDoor d (·.park) else s)
    (fun d s h => ite_kept (k.beside h rfl) h) allAxes _ hfigures
  exact k.enterPresentation_kept _ (k.serviceState_kept _ hdoors)

theorem cancelService_kept (h : P s) : P (cancelService s) := k.enterPresentation_kept _ (k.serviceState_kept _ (k.owePark_kept _ h))

theorem press_kept (h : P s) : P (press s) := by
  unfold press
  split
  iterate 3 exact k.enterServicePending_kept h
  iterate 2 exact k.cancelService_kept h
  · exact ite_kept h (k.leaveService_kept h)
  · exact h

theorem earlyHatch_kept (h : P s) : P (earlyHatch s) := by
  have h1 : P (addReason .service (owePark false (enterPresentation .service s))) :=
    k.addReason_kept .service (k.owePark_kept false (k.enterPresentation_kept .service h))
  unfold earlyHatch
  exact k.serviceState_kept _ (k.modFigures_kept _ (k.modPe_kept _ (ite_kept (k.abortToIdle_kept _ _ h1) h1)))

theorem openHatch_kept (h : P s) : P (openHatch s) := by
  have h1 : P (s.modSv fun u => { u with hatchOpen := true }) := k.beside h rfl
  unfold openHatch
  dsimp only
  split
  · exact k.serviceState_kept _ (k.addReason_kept .service (k.enterPresentation_kept .service h1))
  · exact h1
  all_goals exact k.earlyHatch_kept h1

/-! ## What follows at once -/

theorem park_kept (h : P s) : P (park s) := k.motion (park_onlyMotion (.refl s)) h

theorem immediate_kept (i : Immediate) (h : P s) : P (i.act s) := by
  unfold Immediate.act
  cases i with
  | motion => exact k.motion (motionPass_onlyMotion (.refl s)) h
  | exclusion => exact k.beside h rfl
  | start => exact k.startPlaying_kept h
  | release => exact k.releaseHold_kept h
  | coda => exact k.enterIdle_kept h
  | selfTest => exact k.endSelfTest_kept h
  | recoveryPark => exact k.park_kept (k.modPe_kept _ h)
  | presentationPark => exact k.park_kept (k.owePark_kept false h)
  | serviceReady => exact k.serviceState_kept _ (k.enterPresentation_kept _ h)

end TowerRules

end Sys2Proof.Machine
end

section
/-! SUPPORT. The effects of the events and the answers of the requests keep what `TowerRules` asks for, block by block in the order of the
files named …Effects; so does every command and every step. -/

namespace Sys2Proof.Machine

namespace TowerRules

variable {P : State → Prop} {s : State} (k : TowerRules P)
include k

/-! ## The Motion Unit -/

theorem moveAxis_kept (p : List Byte) (h : P s) : P (moveAxis p s).state := by
  unfold moveAxis
  dsimp only
  split
  · exact h
  split
  · exact h
  split
  · exact h
  split
  · exact h
  split
  · split
    · exact h
    · exact k.demandDoors_kept _ _ h
  split
  · exact h
  split
  · exact h
  · exact k.motion (give_onlyMotion _ _ (.refl s)) h

theorem homeAxis_kept (p : List Byte) (h : P s) : P (homeAxis p s).state := by
  unfold homeAxis
  split
  · exact h
  split
  · exact h
  split
  · exact h
  split_ifs
  · exact h
  · exact h
  · exact h
  · exact k.motion (requestHome_onlyMotion _ (.refl s)) h

/-- CLEAR_FAULT examines the head where it frees a channel (R118). -/
theorem clearFault_kept (p : List Byte) (h : P s) : P (clearFault p s).state := by
  unfold clearFault
  split
  · unfold clearBell
    split
    · exact h
    split
    · exact h
    · next b _ _ =>
      have hclear := k.ease b (clearFault_eases (s.chan b)) h
      exact ite_kept (k.examineStrikes_kept hclear) hclear
  · unfold clearAxis
    split
    · exact h
    split
    · exact k.beside h rfl
    split
    · exact k.beside h rfl
    · exact h
  · exact h

theorem axisFault_kept (n : AxisFaultKind) (a : Axis) (h : P s) : P (axisFault n a s) := k.motion (axisFault_onlyMotion n a (.refl s)) h

theorem doorFault_kept (n : DoorFaultKind) (trip : Option Nat) (d : Axis) (h : P s) : P (countDoorFault d (doorFault n trip d s)) :=
  k.motion (modDoor_onlyMotion d _ (doorFault_onlyMotion n trip d (.refl s))) h

theorem doorOpenSwitch_kept (d : Axis) (active : Bool) (h : P s) : P (doorOpenSwitch d active s) := by
  unfold doorOpenSwitch
  split
  · exact k.motion (enterOpen_onlyMotion d (modDoor_onlyMotion d _ (.refl s))) h
  · exact k.beside h rfl
  · exact k.beside h rfl
  all_goals exact h

theorem homeSwitchChange_kept (a : Axis) (active : Bool) (h : P s) : P (homeSwitchChange a active s) := by
  have hpins := fun f => k.modPins_kept f h
  unfold homeSwitchChange
  exact ite_kept (hpins _) (ite_kept (ite_kept (k.beside h rfl) (hpins _))
    (ite_kept (k.motion (endHoming_onlyMotion a (.refl _)) (hpins _)) (hpins _)))

theorem farSwitchChange_kept (a : Axis) (active : Bool) (h : P s) : P (farSwitchChange a active s) := by
  have hpins := fun f => k.modPins_kept f h
  unfold farSwitchChange
  exact k.doorOpenSwitch_kept a active (ite_kept (k.motion (judgeLimit_onlyMotion a (.refl _)) (hpins _)) (hpins _))

theorem doorSwitchChange_kept (d : Axis) (sw : DoorSwitch) (active : Bool) (h : P s) : P (doorSwitchChange d sw active s) := by
  unfold doorSwitchChange
  split
  · exact k.farSwitchChange_kept d active h
  · exact k.homeSwitchChange_kept d active h

theorem switchLost_kept (d : Axis) (h : P s) : P (switchLost d s) := by
  unfold switchLost
  split
  · exact h
  · exact ite_kept (k.doorFault_kept _ _ d h) h

/-! ## The Performance Engine -/

theorem divisionInstant_kept (h : P s) : P (divisionInstant s) := by
  unfold divisionInstant
  split
  · exact h
  · exact ite_kept (k.runEvents_kept (k.beside h rfl)) h

theorem waitLimitExpiry_kept (h : P s) : P (waitLimitExpiry s) := by
  unfold waitLimitExpiry
  split
  · exact ite_kept (k.releaseHold_kept (k.beside h rfl)) h
  all_goals exact h

theorem stallTimeout_kept (h : P s) : P (stallTimeout s) := by
  unfold stallTimeout
  split
  · exact ite_kept (k.enterCoda_kept _ h) h
  all_goals exact h

theorem codaTimeout_kept (h : P s) : P (codaTimeout s) := by
  unfold codaTimeout
  split
  · exact ite_kept (k.enterIdle_kept (k.beside h rfl)) h
  · exact h

theorem fillRing_kept (a : Nat) (data : List Byte) (h : P s) : P (fillRing a data s) := by
  unfold fillRing
  split
  iterate 2 exact k.requestReads_kept (k.modPe_kept _ h)
  all_goals exact h

theorem prefetchReadEnd_kept (data : List Byte) (h : P s) : P (prefetchReadEnd data s) := by
  have hport := k.freePort_kept h
  unfold prefetchReadEnd
  split
  · exact h
  · dsimp only
    split
    · exact k.grantPort_kept (ite_kept hport (k.fillRing_kept _ _ hport))
    all_goals exact k.grantPort_kept hport

theorem selfTest_kept (p : List Byte) (h : P s) : P (selfTest p s).state := by
  unfold selfTest
  split
  · exact h
  split
  · exact h
  split
  iterate 3 exact h
  all_goals
    split
    · exact h
    · exact k.beside h rfl

theorem selfTestHandoff_kept (h : P s) : P (selfTestHandoff s) := by
  unfold selfTestHandoff
  split
  · exact h
  · exact ite_kept (k.handOver_kept _ _ h) h

/-! ## The Schedule Unit -/

theorem setSeason_kept (p : List Byte) (h : P s) : P (setSeason p s).state := by
  unfold setSeason
  dsimp only
  split
  · exact k.recomputeTrigger_kept (k.evaluateSeason_kept (k.modSu_kept _ h))
  · exact h

theorem setHour_kept (p : List Byte) (h : P s) : P (setHour p s).state := by
  unfold setHour
  split
  · split
    · exact h
    · exact k.recomputeTrigger_kept (k.modSu_kept _ h)
  · exact h

theorem playShow_kept (p : List Byte) (h : P s) : P (playShow p s).state := by
  unfold playShow
  split
  · exact h
  split
  · exact h
  split
  · exact h
  split
  · exact h
  split
  · exact h
  split
  · exact h
  · exact k.examineNewHead_kept s (k.beside h rfl)

theorem stopShow_kept (p : List Byte) (h : P s) : P (stopShow p s).state := by
  have hstop : P (stopEngine s) := k.stopSelfTest_kept _ (k.abortToCoda_kept _ h)
  unfold stopShow
  dsimp only
  split
  · exact k.flushQueue_kept hstop
  · exact hstop

/-! ## The Library Unit -/

theorem storeRead_kept (p : List Byte) (h : P s) : P (storeRead p s).state := by
  unfold storeRead
  dsimp only
  split_ifs
  · exact h
  · exact k.takeStoreOp_kept _ h
  · exact h

theorem storeWrite_kept (p : List Byte) (h : P s) : P (storeWrite p s).state := by
  unfold storeWrite
  dsimp only
  split_ifs
  · exact h
  · exact h
  · exact k.takeStoreOp_kept _ h
  · exact h

theorem storeErase_kept (p : List Byte) (h : P s) : P (storeErase p s).state := by
  unfold storeErase
  dsimp only
  split_ifs
  · exact h
  · exact h
  · exact k.takeStoreOp_kept _ h
  · exact h

/-- A walk begins under the working profile (R43). -/
theorem startWalk_kept (h : P s) : P (startWalk s) := k.beside h rfl

theorem rescan_kept (p : List Byte) (h : P s) : P (rescan p s).state := by
  have hwalk := fun o => k.startWalk_kept (k.takeStoreOp_kept o h)
  unfold rescan
  split_ifs
  · exact h
  · exact h
  · exact k.grantPort_kept (k.recomputeTrigger_kept (ite_kept (k.becomeLocked_kept (hwalk _)) (hwalk _)))

theorem walkTransferEnd_kept (data : List Byte) (h : P s) : P (walkTransferEnd data s) := by
  have hport := k.freePort_kept h
  unfold walkTransferEnd
  split
  · next u w _ _ =>
    have hstep : P (if u.transfer = w.phase.transfer then walkStep w.phase data (freePort s) else (freePort s, none)).1 := by
      split
      · exact k.walkStep_kept _ _ hport
      · exact hport
    refine k.grantPort_kept ?_
    split
    · exact k.endWalk_kept _ (k.recomputeTrigger_kept hstep)
    · exact k.recomputeTrigger_kept hstep
  · exact h

theorem walkStatusTimeout_kept (h : P s) : P (walkStatusTimeout s) := by
  unfold walkStatusTimeout
  split
  · exact h
  split
  · exact ite_kept (k.grantPort_kept (k.modLu_kept rfl h)) h
  all_goals exact h

theorem storeTransferEnd_kept (data : List Byte) (h : P s) : P (storeTransferEnd data s) := by
  have hport := k.freePort_kept h
  unfold storeTransferEnd
  split
  · exact h
  · refine k.grantPort_kept ?_
    split
    · exact ite_kept hport (k.storeStep_kept _ _ hport)
    · exact hport

theorem storeBusyTimeout_kept (h : P s) : P (storeBusyTimeout s) := by
  unfold storeBusyTimeout
  split
  · exact h
  split
  · exact ite_kept (k.endStoreOp_kept _ _ _ h) h
  all_goals exact h

theorem changeTimeout_kept (n : StoreKind) (limit : Nat) (h : P s) : P (changeTimeout n limit s) := by
  unfold changeTimeout
  split
  · exact h
  split
  · exact ite_kept (k.endStoreOp_kept _ _ _ h) h
  all_goals exact h

/-! ## The Strike Unit -/

theorem strikeTest_kept (p : List Byte) (h : P s) : P (strikeTest p s).state := by
  unfold strikeTest
  dsimp only
  split
  · exact h
  split
  · exact h
  split
  · exact h
  split
  · exact h
  split
  · exact h
  · exact k.strikeArrives_kept _ h

theorem counterSelect_kept (p : List Byte) (h : P s) : P (counterSelect p s).state := by
  unfold counterSelect
  dsimp only
  split
  · dsimp only
    exact k.same (modSt_sameBells rfl rfl rfl (.refl s)) h
  · exact h

theorem counterSnapshot_kept (p : List Byte) (h : P s) : P (counterSnapshot p s).state :=
  ite_kept (k.same (qualityTransfer_sameBells (.refl s)) h) h

theorem pulseEnd_kept (b : Bell) (h : P s) : P (pulseEnd b s) :=
  ite_kept (ite_kept (k.endPulseClean_kept b h) (k.openCoil_kept b h)) h

theorem recoveryEnd_kept (b : Bell) (h : P s) : P (recoveryEnd b s) := by
  unfold recoveryEnd
  split
  · next hc => exact k.endRecovery_kept hc.1 h
  · exact h

/-- The two comparators of a bell touch the pin's level and the watch of its pulse (R112). -/
theorem hlimChange_kept (b : Bell) (active : Bool) (h : P s) : P (hlimChange b active s) := by
  have hpins := fun f => k.modPins_kept f h
  unfold hlimChange
  exact ite_kept (k.record b rfl (hpins _)) (hpins _)

theorem hprsChange_kept (b : Bell) (active : Bool) (h : P s) : P (hprsChange b active s) := by
  have hpins := fun f => k.modPins_kept f h
  unfold hprsChange
  exact ite_kept (k.record b rfl (hpins _)) (hpins _)

theorem presenceDeadline_kept (b : Bell) (h : P s) : P (presenceDeadline b s) :=
  ite_kept (ite_kept (k.record b rfl h) (k.openCoil_kept b h)) h

theorem bellOffTimeEnd_kept (b : Bell) (h : P s) : P (bellOffTimeEnd b s) := by
  unfold bellOffTimeEnd
  split
  · next hc => exact k.endOffTime_kept hc.1 h
  · exact h

theorem decayTick_kept (h : P s) : P (decayTick s) :=
  ite_kept (k.reportWarm_kept (forEach_keeps (fun b _ => k.decayBell_kept b) allBells _ h)) h

theorem verifyWindowEnd_kept (b : Bell) (h : P s) : P (verifyWindowEnd b s) := by
  unfold verifyWindowEnd
  split
  · exact ite_kept (ite_kept (k.record b rfl h) (k.verdict_kept b _ h)) h
  all_goals exact h

/-! ## The Supervision Unit -/

theorem setPlaying_kept (p : Presentation) (h : P s) : P (setPlaying p s) := by
  have hreason := k.putReason_kept .operator (p == .quiet) h
  exact k.enterPresentation_kept p (ite_kept (k.owePark_kept false hreason) hreason)

theorem setState_kept (p : List Byte) (h : P s) : P (setState p s).state := by
  unfold setState
  split
  iterate 4 exact h
  all_goals
    split
    · exact h
    · exact ite_kept h (k.owePark_kept true (k.enterPresentation_kept .still h))
    · exact k.setPlaying_kept _ h

theorem serviceRequest_kept (p : List Byte) (h : P s) : P (serviceRequest p s).state := by
  unfold serviceRequest
  split
  iterate 3 exact k.enterServicePending_kept h
  all_goals exact h

theorem resumeRequest_kept (p : List Byte) (h : P s) : P (resumeRequest p s).state := by
  unfold resumeRequest
  split
  iterate 2 exact k.cancelService_kept h
  · split
    · exact h
    · exact k.leaveService_kept h
  all_goals exact h

theorem hatchShowsOpen_kept (h : P s) : P (hatchShowsOpen s) :=
  ite_kept (k.beside h rfl) (k.openHatch_kept (k.beside h rfl))

theorem hatchCloses_kept (h : P s) : P (hatchCloses s) := by
  unfold hatchCloses
  split
  · exact h
  · exact ite_kept (k.beside h rfl) h

theorem restartCodes_kept (hush : Byte) (hushLen : Nat) (release : Byte) (releaseLen : Nat) (m : CodeMode) (h : P s) :
    P (restartCodes hush hushLen release releaseLen m s) := by
  unfold restartCodes
  cases m with
  | manual => exact k.removeReason_kept .hush (k.beside h rfl)
  | auto => exact k.beside h rfl

theorem setCodes_kept (p : List Byte) (h : P s) : P (setCodes p s).state := by
  unfold setCodes
  dsimp only
  split
  · exact h
  split
  · exact k.restartCodes_kept _ _ _ _ _ h
  · exact h

/-! ## The Time Base -/

theorem setTime_kept (p : List Byte) (h : P s) : P (setTime p s).state := by
  unfold setTime
  dsimp only
  split
  · exact k.offerStep_kept _ _ h
  · exact h

theorem wallSecond_kept (h : P s) : P (wallSecond s) := by
  have hwrap : P (calendarWrap s (s.modTb TimeBase.beginSecond)) := ite_kept (k.setRecord_kept _ (k.beside h rfl)) (k.beside h rfl)
  exact ite_kept (ite_kept hwrap (k.evaluateSeason_kept hwrap)) h

theorem holdOver_kept (h : P s) : P (holdOver s) := by
  unfold holdOver
  split
  · exact h
  · exact ite_kept (k.beside h rfl) h

theorem ppsEdge_kept (h : P s) : P (ppsEdge s) := by
  unfold ppsEdge
  exact ite_kept (ite_kept (k.beside h rfl) (k.offerStep_kept _ _ (k.beside h rfl))) (k.beside h rfl)

theorem ppsLost_kept (h : P s) : P (ppsLost s) := by
  unfold ppsLost
  split
  · exact h
  · exact ite_kept (k.beside h rfl) h

/-! ## The Link Port -/

theorem modLp_kept (f : LinkPort → LinkPort) (h : P s) : P (s.modLp f) := k.beside h rfl

theorem receive_kept (r : Request) (h : P s) : P (receive r s) := receive_keeps (P := P) (fun f _ => k.modLp_kept f) r h

theorem frameReceived_kept (h : P s) : P (frameReceived s) := by
  unfold frameReceived
  split
  · exact h
  · exact ite_kept (k.receive_kept _ (k.modLp_kept _ h)) h

theorem badFrame_kept (framing : Bool) (h : P s) : P (badFrame framing s) := by
  unfold badFrame
  split
  · exact h
  · exact ite_kept (k.beside h rfl) h

theorem frameGap_kept (h : P s) : P (frameGap s) := by
  unfold frameGap
  split
  · exact h
  · exact ite_kept (k.beside h rfl) h

theorem byteReceived_kept (b : Byte) (h : P s) : P (byteReceived b s) := by
  unfold byteReceived
  split
  · exact ite_kept (k.modLp_kept _ h) h
  · exact k.modLp_kept _ h

theorem transmitEnd_kept (h : P s) : P (transmitEnd s) := ite_kept (k.softReset h) (k.modLp_kept _ h)

/-! ## Commands -/

/-- The requests that read leave the state, and every other answer keeps the property. -/
theorem answerOf_kept (r : Request) (h : P s) : P (answerOf r s).state := by
  have hseason : P (getSeason r.payload s).state := by unfold getSeason; split <;> exact h
  have hhour : P (getHour r.payload s).state := by unfold getHour; split <;> exact h
  have hbell : P (getBell r.payload s).state := by unfold getBell; split <;> exact h
  have hlog : P (readLog r.payload s).state := by unfold readLog; split <;> exact h
  have haxis : P (getAxis r.payload s).state := by unfold getAxis; split <;> exact h
  have hdoor : P (getDoor r.payload s).state := by unfold getDoor; split <;> exact h
  have hresult : P (storeResult r.payload s).state := by unfold storeResult; split <;> exact h
  refine answerOf_keeps (P := fun a => P a.state) r s ?_ h
  simp only [List.forall_mem_cons]
  exact ⟨h, h, k.setTime_kept _ h, h, k.setSeason_kept _ h, hseason, k.setHour_kept _ h, hhour, k.playShow_kept _ h, k.stopShow_kept _ h, h,
    k.setState_kept _ h, k.serviceRequest_kept _ h, k.resumeRequest_kept _ h, k.setCodes_kept _ h, k.strikeTest_kept _ h,
    k.selfTest_kept _ h, h, hbell, k.counterSelect_kept _ h, k.counterSnapshot_kept _ h, hlog, k.moveAxis_kept _ h, k.homeAxis_kept _ h,
    k.clearFault_kept _ h, haxis, hdoor, k.storeRead_kept _ h, k.storeWrite_kept _ h, k.storeErase_kept _ h, hresult, k.rescan_kept _ h, h,
    k.modLp_kept _ h, h, List.forall_mem_nil _⟩

theorem serve_kept (h : P s) : P (serve s) :=
  serveFor_keeps (P := P)
    (fun r _ => take_keeps (P := P) (fun i _ _ => k.immediate_kept i) (fun f _ => k.modLp_kept f) (fun r _ => k.answerOf_kept r) r) _ s h

theorem event_gives (dt : Nat) {effect : State → State} (he : ∀ {t}, P t → P (effect t)) (h : P s) : Gives P (event dt effect s) :=
  ⟨_, rfl, finish_keeps (P := P) (fun i _ _ => k.immediate_kept i) (fun f _ => k.modLp_kept f) (fun r _ => k.answerOf_kept r)
    (he (k.beside h rfl))⟩

/-- An event whose effect stands under a condition. -/
theorem eventIf_gives (dt : Nat) {c : State → Prop} [DecidablePred c] {effect : State → State} (he : ∀ {t}, P t → P (effect t))
    (h : P s) : Gives P (event dt (fun t => if c t then effect t else t) s) :=
  k.event_gives dt (fun h => ite_kept (he h) h) h

theorem linkEvent_gives (dt : Nat) {effect : State → State} (he : ∀ {t}, P t → P (effect t)) (h : P s) :
    Gives P (linkEvent dt effect s) :=
  ⟨_, rfl, k.serve_kept (arbitrate_keeps (P := P) (fun f _ => k.modLp_kept f) (he (k.beside h rfl)))⟩

theorem hostRequest_gives (dt : Nat) (kind tag : Byte) (p : List Byte) (h : P s) : Gives P (hostRequest dt kind tag p s) :=
  k.linkEvent_gives dt (k.receive_kept _) h

/-- Every command is one form of a meaning over one effect, or the power-on reset. -/
theorem exec_gives (c : Instr) (h : P s) : Gives P (exec c s) := by
  cases c with
  | powerOnReset b1 b0 => exact ⟨_, rfl, k.powerOn b1 b0 h⟩
  | softReset | ident | getStatus | setTime | getTime | setSeason | getSeason | setHour | getHour | playShow | stopShow | getQueue
  | setState | service | resume | setCodes | strikeTest | selfTest | getSelfTest | getBell | counterSelect | counterSnapshot | readLog
  | moveAxis | homeAxis | clearFaultBell | clearFaultAxis | getAxis | getDoor | storeRead | storeWrite | storeErase | storeResult
  | rescan | getWalkReport | setNoticeMask => exact k.hostRequest_gives _ _ _ _ h
  | unknownKind dt kind tag p =>
    exact ite_kept (P := Gives P) (k.linkEvent_gives dt (effect := id) id h) (k.hostRequest_gives dt kind tag p h)
  | frameReceived => exact k.linkEvent_gives _ k.frameReceived_kept h
  | badFrame => exact k.linkEvent_gives _ (k.badFrame_kept _) h
  | frameGapTimeout => exact k.linkEvent_gives _ k.frameGap_kept h
  | byteReceived => exact k.linkEvent_gives _ (k.byteReceived_kept _) h
  | softResetInstant dt => exact k.eventIf_gives dt (c := (sendingSoftResetReply ·)) k.softReset h
  | transmitEnd => exact k.event_gives _ k.transmitEnd_kept h
  | wallSecondStart => exact k.event_gives _ k.wallSecond_kept h
  | slewHoldEnd => exact k.event_gives _ k.holdOver_kept h
  | ppsEdge => exact k.event_gives _ k.ppsEdge_kept h
  | ppsLossTimeout => exact k.event_gives _ k.ppsLost_kept h
  | nextTriggerHandled => exact k.event_gives _ k.nextTriggerHandled_kept h
  | heldLinkHeadDue dt => exact k.eventIf_gives dt (c := (heldHeadDue ·)) k.examineQueue_kept h
  | dueCountReached dt => exact k.eventIf_gives dt (c := (mayStart ·)) k.startPlaying_kept h
  | preparationLimit => exact k.event_gives _ (fun h => ite_kept (k.startPlaying_kept h) h) h
  | divisionInstant => exact k.event_gives _ k.divisionInstant_kept h
  | waitLimitExpiry => exact k.event_gives _ k.waitLimitExpiry_kept h
  | prefetchReadEnd => exact k.event_gives _ (k.prefetchReadEnd_kept _) h
  | stallTimeout => exact k.event_gives _ k.stallTimeout_kept h
  | codaTimeout => exact k.event_gives _ k.codaTimeout_kept h
  | supplyTimerExpiry | thermalTimerExpiry => exact k.event_gives _ (fun h => ite_kept (k.abortToIdle_kept _ _ h) h) h
  | selfTestHandoff => exact k.event_gives _ k.selfTestHandoff_kept h
  | walkTransferEnd => exact k.event_gives _ (k.walkTransferEnd_kept _) h
  | walkStatusTimeout => exact k.event_gives _ k.walkStatusTimeout_kept h
  | storeTransferEnd => exact k.event_gives _ (k.storeTransferEnd_kept _) h
  | storeBusyTimeout => exact k.event_gives _ k.storeBusyTimeout_kept h
  | writeTimeout | eraseTimeout => exact k.event_gives _ (k.changeTimeout_kept _ _) h
  | strikeHeadDue | slackExpiry => exact k.event_gives _ (fun h => ite_kept (k.examineStrikes_kept h) h) h
  | pulseEnd _ b => exact k.event_gives _ (k.pulseEnd_kept b) h
  | recoveryEnd _ b => exact k.event_gives _ (k.recoveryEnd_kept b) h
  | hlimChange _ b => exact k.event_gives _ (k.hlimChange_kept b _) h
  | hprsActive _ b => exact k.event_gives _ (k.hprsChange_kept b _) h
  | overCurrent _ b => exact k.event_gives _ (fun h => ite_kept (k.bellOverCurrent_kept b h) h) h
  | presenceDeadline _ b => exact k.event_gives _ (k.presenceDeadline_kept b) h
  | bellOffTimeEnd _ b => exact k.event_gives _ (k.bellOffTimeEnd_kept b) h
  | decayTick => exact k.event_gives _ k.decayTick_kept h
  | dampEnd _ b => exact k.event_gives _ (fun h => ite_kept (k.dampOff_kept b h) h) h
  | pickupEdge _ b => exact k.event_gives _ (k.record b rfl) h
  | verifyWindowEnd _ b => exact k.event_gives _ (k.verifyWindowEnd_kept b) h
  | axisCount _ a => exact k.event_gives _ (fun {t} => k.motion (countAxis_onlyMotion a (.refl t))) h
  | reversalEnd _ a | alimChange _ a => exact k.event_gives _ (fun h => k.beside h rfl) h
  | dwellEnd _ a => exact k.event_gives _ (fun {t} h => ite_kept (k.motion (dwellNext_onlyMotion a listFuel (.refl t)) h) h) h
  | homeSwitchChange _ a => exact k.event_gives _ (k.homeSwitchChange_kept a _) h
  | farSwitchActive _ a => exact k.event_gives _ (k.farSwitchChange_kept a _) h
  | axisStall _ a | travelTimeout _ a | axisOvercurrent _ a => exact k.event_gives _ (fun h => ite_kept (k.axisFault_kept _ a h) h) h
  | axisOffTimeEnd _ a | doorOffTimeEnd _ a => exact k.event_gives _ (fun h => ite_kept (k.beside h rfl) h) h
  | doorSwitchChange _ d => exact k.event_gives _ (k.doorSwitchChange_kept d _ _) h
  | doorTimeout _ d => exact k.event_gives _ (fun h => ite_kept (k.doorFault_kept _ _ d h) h) h
  | doorOvercurrent _ d => exact k.event_gives _ (fun {t} h => ite_kept (k.motion (doorOverCurrent_onlyMotion d (.refl t)) h) h) h
  | switchLost _ d => exact k.event_gives _ (k.switchLost_kept d) h
  | servicePress => exact k.event_gives _ (fun h => ite_kept (k.press_kept (k.beside h rfl)) h) h
  | lampToggle => exact k.event_gives _ (k.setLamp_kept _) h
  | hatchOpening => exact k.event_gives _ k.hatchShowsOpen_kept h
  | hatchClosed => exact k.event_gives _ k.hatchCloses_kept h
  | hatchShowsClosed => exact k.event_gives _ (fun h => ite_kept (k.beside h rfl) (k.beside h rfl)) h
  | supplySample dt => exact k.eventIf_gives dt (c := (·.now % 1000 = 0)) (k.takeSample_kept _) h
  | dieReading dt => exact k.eventIf_gives dt (c := (·.now % 10000 = 0)) (k.takeDieReading_kept _) h
  | codeBlockEnd dt => exact k.eventIf_gives dt (c := fun t => t.sv.hushCode.blockOver || t.sv.releaseCode.blockOver) k.endBlocks_kept h
  | codeBit => exact k.event_gives _ (fun h => ite_kept (k.beside h rfl) h) h
  | serviceReqChange => exact k.event_gives _ (fun h => ite_kept h (k.beside h rfl)) h

/-- One step keeps the property (log entry 1). -/
theorem step_kept {t : State} (h : P s) (hs : step s = .next t) : P t := by
  unfold step at hs
  split at hs
  · cases hs
    exact k.beside h rfl
  · next c rest _ =>
    obtain ⟨v, hv, hP⟩ := k.exec_gives c (s := s.withPending rest) (k.beside h rfl)
    cases hv.symm.trans hs
    exact hP

end TowerRules

end Sys2Proof.Machine
end

section
/-! SUPPORT. What an update for each bell reaches, and what a property that is not about the mute reason set keeps of a reason's addition. -/

namespace Sys2Proof.Machine

theorem mem_allBells : ∀ b : Bell, b ∈ allBells := by decide

/-- What one member's update makes true of it, and the other members' updates keep, is true of every member at the end. -/
theorem forEach_reaches {α : Type} {Q : α → State → Prop} {f : α → State → State} (hdo : ∀ x s, Q x (f x s))
    (hkeep : ∀ x y s, Q y s → Q y (f x s)) {x : α} {l : List α} (hx : x ∈ l) (s : State) : Q x (forEach f l s) := by
  induction l generalizing s with
  | nil => exact absurd hx List.not_mem_nil
  | cons y l ih =>
    rcases List.mem_cons.mp hx with rfl | hx
    · exact forEach_keeps (fun y s => hkeep y x s) l _ (hdo x s)
    · exact ih hx (f y s)

theorem BellRules.reasonAdded_kept {P : State → Prop} (k : BellRules P) (hset : ∀ (r : MuteReason) {s : State}, P s → P (setReason r true s))
    (first : Bool) (r : MuteReason) {s : State} (h : P s) : P (reasonAdded first r s) := by
  have hreason := hset r h
  have hflushed : P (flushedFor r s) := ite_kept hreason (k.stopSelfTest_kept _ (k.dropStrikes_kept _ hreason))
  have hcut : P (cutFor first r s) := ite_kept (k.haltPulses_kept _ hflushed) hflushed
  exact ite_kept (k.haltTower_kept hcut) hcut

end Sys2Proof.Machine
end

section
/-! SUPPORT. The heat estimates stay within their limits (R51, R106). -/

namespace Sys2Proof.Machine

/-- Under the same working profile no bell is hotter. -/
theorem HeatSafe.cooler {s t : State} (h : HeatSafe s) (hprofile : t.lu.profile = s.lu.profile)
    (hheat : ∀ b, (t.chan b).heat ≤ (s.chan b).heat) : HeatSafe t := fun b hb => by
  rw [bellPresent_congr hprofile] at hb
  rw [bellProfile_congr hprofile hb]
  exact (hheat b).trans (h b hb)

/-- A bell fires only as far as its heat room allows (R106). -/
theorem HeatSafe.fires {q : StrikeRequest} {g : Stages} {s : State} (hj : judgeHead q s = .fire g) (h : HeatSafe s) :
    HeatSafe (fireStrike q g s) := fun b hb => by
  have hprofile : (fireStrike q g s).lu.profile = s.lu.profile := by rw [(fireStrike_onlyStrikes q g (.refl s)).lu]
  rw [bellPresent_congr hprofile] at hb
  rw [bellProfile_congr hprofile hb]
  by_cases hbell : b = q.bell
  · subst hbell
    rw [(judgeHead_fire hj).stages]
    exact (congrArg Coil.heat (fireStrike_coil q _ s)).trans_le (heat_add_w3_le _ _ _ _ _ (h q.bell hb))
  · exact (congrArg Coil.heat (fireStrike_coil_ne q g s hbell)).trans_le (h b hb)

theorem adoptProfileBell_profile (b : Bell) (s : State) : (adoptProfileBell b s).lu.profile = s.lu.profile := by
  rw [(adoptProfileBell_onlyStrikes b (.refl s)).lu]

/-- A present bell's heat is lowered to its Hmax (R51). -/
theorem adoptProfileBell_heat {b : Bell} {s : State} (hb : s.bellPresent b = true) :
    ((adoptProfileBell b s).chan b).heat = min (s.chan b).heat (s.bellProfile b).hmax := by
  rw [adoptProfileBell, if_pos hb, (judgeThermal_sameBells b (.refl _)).heat, modChan_chan_self]

theorem adoptProfileBell_coil_ne (b : Bell) (s : State) {c : Bell} (hc : c ≠ b) :
    ((adoptProfileBell b s).chan c).coil = (s.chan c).coil := by
  rw [adoptProfileBell, (judgeThermal_sameBells b (.refl _)).coil]
  split
  · rw [modChan_chan_ne hc]
  · rfl

/-- A bell's heat is within the limit of the working profile. -/
def HeatWithin (b : Bell) (s : State) : Prop := s.bellPresent b = true → (s.chan b).heat ≤ (s.bellProfile b).hmax

theorem adoptProfileBell_reaches (b : Bell) (s : State) : HeatWithin b (adoptProfileBell b s) := fun hb => by
  rw [bellPresent_congr (adoptProfileBell_profile b s)] at hb
  rw [bellProfile_congr (adoptProfileBell_profile b s) hb, adoptProfileBell_heat hb]
  exact min_le_right _ _

theorem adoptProfileBell_keeps (b c : Bell) (s : State) (h : HeatWithin c s) : HeatWithin c (adoptProfileBell b s) := by
  by_cases hc : c = b
  · subst hc
    exact adoptProfileBell_reaches c s
  · intro hb
    rw [bellPresent_congr (adoptProfileBell_profile b s)] at hb
    rw [bellProfile_congr (adoptProfileBell_profile b s) hb]
    exact (congrArg Coil.heat (adoptProfileBell_coil_ne b s hc)).trans_le (h hb)

/-- Whatever the heats were, each is within the new profile's limit once the bells have adopted it (R51). -/
theorem adoptBells_heatSafe (s : State) : HeatSafe (adoptBells s) := fun b =>
  forEach_reaches (Q := HeatWithin) adoptProfileBell_reaches adoptProfileBell_keeps (mem_allBells b) s

theorem heatSafe_bellRules : BellRules HeatSafe where
  same g h := h.cooler g.profile fun b => (g.heat b).le
  ease b _ _ he h := h.cooler rfl (modChan_each (R := fun c d => d.heat ≤ c.heat) (fun _ => le_rfl) b he.heat)
  release b n s h := h.cooler rfl fun c => by
    by_cases hc : c = b
    · subst hc
      exact (congrArg Coil.heat (releaseCoil_coil c n s)).le
    · exact (congrArg Coil.heat (releaseCoil_coil_ne b n s hc)).le
  fire := HeatSafe.fires
  shorten _ h := h
  place _ _ _ _ h := h
  damp b _ _ _ h := h.cooler rfl (modChan_each (R := fun c d => d.heat ≤ c.heat) (fun _ => le_rfl) b le_rfl)

theorem heatSafe_towerRules : TowerRules HeatSafe where
  toBellRules := heatSafe_bellRules
  reason _ _ h := heatSafe_bellRules.reasonAdded_kept (fun _ _ h => h) _ _ h
  unmute _ _ h := h
  adopt _ _ _ := adoptBells_heatSafe _
  softReset {s} h := h.cooler (by rw [softReset_lu]; rfl) fun b => by rw [softReset_chan]; exact le_rfl
  powerOn _ _ _ _ := fun _ => nofun

/-- Settles O57: the rules of `heatSafe_towerRules`, and the passage over a step. -/
theorem everyStepKeepsHeatSafe : Obligations.EveryStepKeepsHeatSafe := fun _ _ h hs => heatSafe_towerRules.step_kept h hs

end Sys2Proof.Machine
end

section
/-! SUPPORT. The energized-current sum is that of the admitted currents, and the channels in PULSE hold them (R98). -/

namespace Sys2Proof.Machine

theorem allBells_eq_finRange : allBells = List.finRange 24 := by decide

/-- Sums over the bells of two families that differ at one bell differ by its members. -/
theorem sum_allBells_exchange {f g : Bell → Nat} (b : Bell) (h : ∀ c, c ≠ b → f c = g c) :
    (allBells.map f).sum + g b = (allBells.map g).sum + f b := by
  have hsum : ∀ e : Bell → Nat, (allBells.map e).sum = e b + ∑ c ∈ Finset.univ.erase b, e c := fun e => by
    rw [Finset.add_sum_erase _ _ (Finset.mem_univ b), allBells_eq_finRange, ← List.ofFn_eq_map, List.sum_ofFn]
  have hrest : ∑ c ∈ Finset.univ.erase b, f c = ∑ c ∈ Finset.univ.erase b, g c :=
    Finset.sum_congr rfl fun c hc => h c (Finset.ne_of_mem_erase hc)
  rw [hsum f, hsum g, hrest]
  omega

/-- The channels hold the same currents, and the sum is as before. -/
theorem CurrentSafe.same {s t : State} (h : CurrentSafe s) (hsum : t.st.sum = s.st.sum)
    (hadmitted : ∀ b, (t.chan b).admitted = (s.chan b).admitted)
    (hreleased : ∀ b, (t.chan b).state ≠ .pulse → (s.chan b).state ≠ .pulse ∨ (s.chan b).admitted = 0) : CurrentSafe t where
  sum := by simp only [hsum, hadmitted, h.sum]
  released b hb := by
    rw [hadmitted]
    rcases hreleased b hb with hs | ha
    · exact h.released b hs
    · exact ha

/-- One channel gives up its current for another, and the sum follows. -/
theorem CurrentSafe.exchange {s t : State} (h : CurrentSafe s) (b : Bell) (hothers : ∀ c, c ≠ b → (t.chan c).coil = (s.chan c).coil)
    (hsum : t.st.sum = s.st.sum - (s.chan b).admitted + (t.chan b).admitted)
    (hreleased : (t.chan b).state ≠ .pulse → (t.chan b).admitted = 0) : CurrentSafe t where
  sum := by
    have hexchange := sum_allBells_exchange (f := fun c => (t.chan c).admitted) (g := fun c => (s.chan c).admitted) b
      fun c hc => congrArg Coil.admitted (hothers c hc)
    have hbefore := h.sum
    have hle : (s.chan b).admitted ≤ (allBells.map fun c => (s.chan c).admitted).sum :=
      List.le_sum_of_mem (List.mem_map.mpr ⟨b, mem_allBells b, rfl⟩)
    omega
  released c hs := by
    by_cases hc : c = b
    · subst hc
      exact hreleased hs
    · exact (congrArg Coil.admitted (hothers c hc)).trans
        (h.released c fun hp => hs ((congrArg Coil.state (hothers c hc)).trans hp))

/-- A firing admits the bell's current to a channel that holds none (R98, R99). -/
theorem CurrentSafe.fires {q : StrikeRequest} {g : Stages} {s : State} (hj : judgeHead q s = .fire g) (h : CurrentSafe s) :
    CurrentSafe (fireStrike q g s) := by
  obtain ⟨-, hpulse, -⟩ := (headBlocked_eq_false_iff q s).mp (judgeHead_fire hj).unblocked
  have hcoil := fireStrike_coil q g s
  refine h.exchange q.bell (fun c => fireStrike_coil_ne q g s) ?_ fun hs => absurd (congrArg Coil.state hcoil) hs
  rw [fireStrike_sum, h.released _ hpulse, Nat.sub_zero]
  exact congrArg (s.st.sum + ·) (congrArg Coil.admitted hcoil).symm

theorem currentSafe_bellRules : BellRules CurrentSafe where
  same g h := h.same g.sum g.admitted fun b hb => .inl (g.state b ▸ hb)
  ease b _ _ he h := h.same rfl (modChan_each (R := fun c d => d.admitted = c.admitted) (fun _ => rfl) b he.admitted)
    (modChan_each (R := fun c d => d.state ≠ .pulse → c.state ≠ .pulse ∨ c.admitted = 0) (fun _ => .inl) b fun hs =>
      he.state.elim (fun hsame => .inl (hsame ▸ hs)) And.right)
  release b n s h := by
    have hcoil := releaseCoil_coil b n s
    have hadmitted : ((releaseCoil b n s).chan b).admitted = 0 := congrArg Coil.admitted hcoil
    exact h.exchange b (fun c => releaseCoil_coil_ne b n s) (by rw [hadmitted]; rfl) fun _ => hadmitted
  fire := CurrentSafe.fires
  shorten _ h := ⟨h.sum, h.released⟩
  place _ _ _ _ h := ⟨h.sum, h.released⟩
  damp b _ _ _ h := h.same rfl (modChan_each (R := fun c d => d.admitted = c.admitted) (fun _ => rfl) b rfl)
    (modChan_each (R := fun c d => d.state ≠ .pulse → c.state ≠ .pulse ∨ c.admitted = 0) (fun _ => .inl) b .inl)

theorem currentSafe_towerRules : TowerRules CurrentSafe where
  toBellRules := currentSafe_bellRules
  reason _ _ h := currentSafe_bellRules.reasonAdded_kept (fun _ _ h => ⟨h.sum, h.released⟩) _ _ h
  unmute _ _ h := ⟨h.sum, h.released⟩
  adopt {s t} hst _ h := currentSafe_bellRules.adoptBells_kept
    (h.same (by rw [hst]) (fun b => by rw [State.chan, hst]; rfl) fun b hb => .inl (by rwa [State.chan, hst] at hb))
  softReset {s} _ := ⟨by simp [softReset_chan, softReset_st, StrikeUnit.softReset, Channel.softReset, StrikeUnit.reset, Channel.reset],
    fun b _ => by rw [softReset_chan]; rfl⟩
  powerOn b1 b0 s _ := ⟨by simp [powerOn_chan, Channel.reset]; rfl, fun b _ => by rw [powerOn_chan]; rfl⟩

/-- Settles O56: the rules of `currentSafe_towerRules`, and the passage over a step. -/
theorem everyStepKeepsCurrentSafe : Obligations.EveryStepKeepsCurrentSafe := fun _ _ h hs => currentSafe_towerRules.step_kept h hs

end Sys2Proof.Machine
end

section
/-! SUPPORT. The Strike Unit is safe: what the addition of a mute reason does to the queue, the pulses and the dampers (R93, R101, R174), and
the rules of `StrikeSafe`. -/

namespace Sys2Proof.Machine

variable {s t u : State}

/-! ## What only calms the tower -/

/-- The mute reason set is as before, the queue is as before or empty, and no pulse begins and no damper is energized. -/
structure Calmer (s t : State) : Prop where
  mute : t.sv.mute = s.sv.mute
  queue : t.st.queue = s.st.queue ∨ t.st.queue = []
  pulse : ∀ b, (t.chan b).state = .pulse → (s.chan b).state = .pulse
  damper : ∀ b, (s.chan b).dampEnd = none → (t.chan b).dampEnd = none

theorem Calmer.refl (s : State) : Calmer s s := ⟨rfl, .inl rfl, fun _ => id, fun _ => id⟩

theorem Calmer.trans (h : Calmer s t) (g : Calmer t u) : Calmer s u where
  mute := g.mute.trans h.mute
  queue := by
    rcases g.queue with hq | hq
    · exact h.queue.imp hq.trans hq.trans
    · exact .inr hq
  pulse b := h.pulse b ∘ g.pulse b
  damper b := g.damper b ∘ h.damper b

theorem SameBells.calmer (h : SameBells s t) : Calmer s t :=
  ⟨h.mute, .inl h.queue, fun b => (h.state b).symm.trans, fun b => (h.dampEnd b).trans⟩

theorem OnlyMotion.calmer (h : OnlyMotion s t) : Calmer s t := (SameBells.beside h.st (by rw [h.lu]) (by rw [h.sv])).calmer

theorem modChan_calmer {b : Bell} {f : Channel → Channel} (hpulse : (f (s.chan b)).state = .pulse → (s.chan b).state = .pulse)
    (hdamper : (s.chan b).dampEnd = none → (f (s.chan b)).dampEnd = none) : Calmer s (s.modChan b f) where
  mute := rfl
  queue := .inl rfl
  pulse := modChan_each (R := fun c d => d.state = .pulse → c.state = .pulse) (fun _ => id) b hpulse
  damper := modChan_each (R := fun c d => c.dampEnd = none → d.dampEnd = none) (fun _ => id) b hdamper

theorem releaseCoil_calmer (b : Bell) (k : PulseEndKind) (s : State) : Calmer s (releaseCoil b k s) :=
  (modChan_calmer (f := (·.release k)) id id).trans ⟨rfl, .inl rfl, fun _ => id, fun _ => id⟩

/-- The end of a pulse as HALT, and its recovery (R101). -/
theorem cutByHalt_calmer (b : Bell) (s : State) : Calmer s (enterRecovery b (cutPulse b .halt s)) := by
  have hcut := (releaseCoil_calmer b .halt s).trans (cutPulse_sameBells b .halt s).calmer
  unfold enterRecovery
  exact hcut.trans (modChan_calmer nofun id)

theorem enterRecovery_state (b : Bell) (s : State) : ((enterRecovery b s).chan b).state = .recovery := by
  rw [enterRecovery, modChan_chan_self]

/-! ## The halt (R101, R174) -/

theorem haltPulse_calmer (cut : Bool) (b : Bell) (s : State) : Calmer s (haltPulse cut b s) := by
  obtain he | ⟨-, -, he⟩ := haltPulse_cases cut b s <;> rw [he]
  · exact .refl s
  · exact cutByHalt_calmer b s

theorem haltPulses_calmer (cut : Bool) (s : State) : Calmer s (haltPulses cut s) :=
  haltPulses_keeps (P := Calmer s) (fun b t _ h => h.trans (cutByHalt_calmer b t)) cut (.refl s)

theorem haltPulse_cuts (b : Bell) (s : State) : ((haltPulse true b s).chan b).state ≠ .pulse := by
  unfold haltPulse
  split
  · exact (enterRecovery_state b _).trans_ne nofun
  · next hn => exact fun hp => hn ⟨hp, rfl⟩

/-- A halt that cuts leaves no pulse (R101). -/
theorem haltPulses_cuts (s : State) (b : Bell) : ((haltPulses true s).chan b).state ≠ .pulse :=
  forEach_reaches (Q := fun b s => (s.chan b).state ≠ .pulse) haltPulse_cuts
    (fun x y s hy => hy ∘ (haltPulse_calmer true x s).pulse y) (mem_allBells b) s

theorem haltDamper_calmer (b : Bell) (s : State) : Calmer s (haltDamper b s) := modChan_calmer id fun _ => rfl

/-- After the dampers, the axes and the doors are halted, which are no matter of the bells. -/
theorem haltTower_onlyMotion (s : State) : OnlyMotion (forEach haltDamper allBells s) (haltTower s) :=
  forEach_onlyMotion (fun d _ => haltDoor_onlyMotion d) allAxes
    (forEach_onlyMotion (f := fun a s => s.modAxis a (·.halt)) (fun a _ => modAxis_onlyMotion a _) allAxes (.refl _))

theorem haltTower_calmer (s : State) : Calmer s (haltTower s) :=
  (forEach_keeps (P := Calmer s) (fun b t h => h.trans (haltDamper_calmer b t)) allBells s (.refl s)).trans
    (haltTower_onlyMotion s).calmer

/-- A halt turns every damper OFF (R125). -/
theorem haltTower_dampers (s : State) (b : Bell) : ((haltTower s).chan b).dampEnd = none :=
  (haltTower_onlyMotion s).calmer.damper b
    (forEach_reaches (Q := fun b s => (s.chan b).dampEnd = none) (fun b s => congrArg Channel.dampEnd (modChan_chan_self b _ s))
      (fun x y s => (haltDamper_calmer x s).damper y) (mem_allBells b) s)

/-! ## The addition of a reason (R172 to R174) -/

theorem firstReason_queue (s : State) : (firstReason s).st.queue = [] := by
  unfold firstReason stopSelfTest
  split <;> rfl

theorem firstReason_calmer (s : State) : Calmer s (firstReason s) := by
  have hdrops : SameBells s (forEach (dropStrike .muted none) s.st.queue s) :=
    forEach_keeps (P := SameBells s) (fun q _ h => dropStrike_sameBells _ _ q h) _ s (.refl s)
  have hflush : Calmer s (flushStrikes s) := hdrops.calmer.trans ⟨rfl, .inr rfl, fun _ => id, fun _ => id⟩
  unfold firstReason stopSelfTest
  split
  · exact hflush.trans ⟨rfl, .inl rfl, fun _ => id, fun _ => id⟩
  · exact hflush

theorem flushedFor_calmer (r : MuteReason) (s : State) : Calmer (setReason r true s) (flushedFor r s) := by
  unfold flushedFor
  split
  · exact .refl _
  · exact firstReason_calmer _

theorem cutFor_calmer (first : Bool) (r : MuteReason) (s : State) : Calmer (flushedFor r s) (cutFor first r s) := by
  unfold cutFor
  split
  · exact haltPulses_calmer _ _
  · exact .refl _

theorem afterCut_calmer (first : Bool) (r : MuteReason) (s : State) : Calmer (cutFor first r s) (reasonAdded first r s) := by
  unfold reasonAdded
  split
  · exact haltTower_calmer _
  · exact .refl _

theorem reasonAdded_calmer (first : Bool) (r : MuteReason) (s : State) : Calmer (setReason r true s) (reasonAdded first r s) :=
  (flushedFor_calmer r s).trans ((cutFor_calmer first r s).trans (afterCut_calmer first r s))

/-- With a reason in the set the strike queue is empty (R93). -/
theorem reasonAdded_queue (first : Bool) (r : MuteReason) (h : s.muted = true → s.st.queue = []) :
    (reasonAdded first r s).st.queue = [] := by
  have hflushed : (flushedFor r s).st.queue = [] := by
    unfold flushedFor
    split
    · next hm => exact h hm
    · exact firstReason_queue _
  rcases ((cutFor_calmer first r s).trans (afterCut_calmer first r s)).queue with hq | hq
  · exact hq.trans hflushed
  · exact hq

/-- A halt reason whose addition cuts leaves no pulse (R101, R117). -/
theorem reasonAdded_cuts {first : Bool} {r : MuteReason} (hr : r.isHalt = true) (hcut : haltCuts first s = true) (b : Bell) :
    ((reasonAdded first r s).chan b).state ≠ .pulse := by
  refine mt ((afterCut_calmer first r s).pulse b) ?_
  rw [cutFor, if_pos hr, hcut]
  exact haltPulses_cuts _ b

/-- The first halt reason leaves no damper energized (R125). -/
theorem reasonAdded_dampers (first : Bool) {r : MuteReason} (hnew : (setReason r true s).halted = true) (hold : s.halted = false) (b : Bell) :
    ((reasonAdded first r s).chan b).dampEnd = none := by
  rw [reasonAdded, hnew, hold]
  exact haltTower_dampers _ b

/-! ## The rules of `StrikeSafe` -/

theorem haltHasCut_congr (h : t.sv.mute = s.sv.mute) : haltHasCut t = haltHasCut s := by simp only [haltHasCut, h]

/-- A halt reason whose addition does not cut has found the pulses cut already, or stands where they need not be (log entries 52, 79). -/
theorem haltHasCut_before {first : Bool} {r : MuteReason} (hrule : CutsAsRuled first r) (hr : r.isHalt = true)
    (hcut : haltCuts first s = false) (h : haltHasCut (setReason r true s) = true) : s.halted = true ∧ haltHasCut s = true := by
  unfold haltCuts at hcut
  split at hcut
  · next hs => exact ⟨hs, by simpa [haltHasCut, hcut] using h⟩
  · next hs =>
    rcases hrule with rfl | ⟨rfl, rfl⟩
    · cases hcut
    · have hnone : s.sv.mute.service = false ∧ s.sv.mute.thermal = false := by
        simp only [State.halted, MuteSet.halted, Bool.or_eq_true, not_or, Bool.not_eq_true] at hs
        exact ⟨hs.1.2, hs.2⟩
      simp [haltHasCut, hcut, setReason, MuteSet.put, hnone] at h

/-- A reason that is no halt reason changes nothing about the halt (9.1). -/
theorem setReason_halt {r : MuteReason} (hr : r.isHalt = false) (v : Bool) (s : State) :
    (setReason r v s).halted = s.halted ∧ haltHasCut (setReason r v s) = haltHasCut s := by
  cases r with
  | operator | hush => exact ⟨rfl, rfl⟩
  | supply | service | thermal => cases hr

theorem StrikeSafe.reason {first : Bool} {r : MuteReason} (hrule : CutsAsRuled first r) (h : StrikeSafe s) :
    StrikeSafe (reasonAdded first r s) := by
  have hcalm := reasonAdded_calmer first r s
  have hqueue := reasonAdded_queue first r h.muted
  have hhalted : (reasonAdded first r s).halted = (setReason r true s).halted := congrArg MuteSet.halted hcalm.mute
  refine ⟨fun ht hhas b => ?_, fun ht b => ?_, fun _ => hqueue, by simp [hqueue], by simp [hqueue]⟩
  · rw [haltHasCut_congr hcalm.mute] at hhas
    rw [hhalted] at ht
    have hbefore (hs : s.halted = true ∧ haltHasCut s = true) : ((reasonAdded first r s).chan b).state ≠ .pulse :=
      mt (hcalm.pulse b) (h.cut hs.1 hs.2 b)
    cases hr : r.isHalt with
    | false =>
      obtain ⟨hsame, hcut⟩ := setReason_halt hr true s
      exact hbefore ⟨hsame.symm.trans ht, hcut.symm.trans hhas⟩
    | true =>
      cases hcut : haltCuts first s with
      | true => exact reasonAdded_cuts hr hcut b
      | false => exact hbefore (haltHasCut_before hrule hr hcut hhas)
  · cases hs : s.halted with
    | true => exact hcalm.damper b (h.damped hs b)
    | false => exact reasonAdded_dampers first (hhalted.symm.trans ht) hs b

/-- With the same reasons and the same queue, no pulse and no damper that a halt forbids has come. -/
theorem StrikeSafe.same (h : StrikeSafe s) (hmute : t.sv.mute = s.sv.mute) (hqueue : t.st.queue = s.st.queue)
    (hpulse : s.halted = true → ∀ b, (t.chan b).state = .pulse → (s.chan b).state = .pulse)
    (hdamper : s.halted = true → ∀ b, (s.chan b).dampEnd = none → (t.chan b).dampEnd = none) : StrikeSafe t := by
  have hhalted : t.halted = s.halted := congrArg MuteSet.halted hmute
  have hmuted : t.muted = s.muted := congrArg MuteSet.muted hmute
  refine ⟨fun ht hhas b => ?_, fun ht b => ?_, fun ht => ?_, hqueue ▸ h.bound, hqueue ▸ h.order⟩
  · rw [haltHasCut_congr hmute] at hhas
    rw [hhalted] at ht
    exact mt (hpulse ht b) (h.cut ht hhas b)
  · rw [hhalted] at ht
    exact hdamper ht b (h.damped ht b)
  · exact hqueue.trans (h.muted (hmuted ▸ ht))

/-- The queue is replaced by one that is as safe. -/
theorem StrikeSafe.requeue (h : StrikeSafe s) {l : List StrikeRequest} (hmuted : s.muted = true → l = []) (hbound : l.length ≤ 32)
    (horder : l.Pairwise fun x y => x.due ≤ y.due) : StrikeSafe (setStrikes l s) :=
  ⟨h.cut, h.damped, hmuted, hbound, horder⟩

/-- A Strike Unit at rest is safe whatever reasons stand. -/
theorem StrikeSafe.of_rest (hqueue : s.st.queue = []) (hpulse : ∀ b, (s.chan b).state ≠ .pulse)
    (hdamper : ∀ b, (s.chan b).dampEnd = none) : StrikeSafe s :=
  ⟨fun _ _ => hpulse, fun _ => hdamper, fun _ => hqueue, by simp [hqueue], by simp [hqueue]⟩

/-- While no reason stands no halt reason does. -/
theorem halted_of_unmuted (h : s.muted = false) : s.halted = false := by
  simp only [State.muted, MuteSet.muted, Bool.or_eq_false_iff] at h
  exact h.2

theorem strikeSafe_bellRules : BellRules StrikeSafe where
  same g h := h.same g.mute g.queue (fun _ => g.calmer.pulse) fun _ => g.calmer.damper
  ease b f s he h := by
    have hcalm : Calmer s (s.modChan b f) := modChan_calmer
      (fun hp => he.state.elim (fun hs => hs.symm.trans hp) fun hs => absurd hp hs.1) fun hn => he.damper.elim (·.trans hn) id
    exact h.same rfl rfl (fun _ => hcalm.pulse) fun _ => hcalm.damper
  release b n s h := h.same rfl rfl (fun _ => (releaseCoil_calmer b n s).pulse) fun _ => (releaseCoil_calmer b n s).damper
  fire {q g s} hj h := by
    have hhalted := halted_of_unmuted (judgeHead_fire hj).unmuted
    exact h.same (by rw [(fireStrike_onlyStrikes q g (.refl s)).sv]) (fireStrike_queue q g s)
      (fun hs => absurd (hhalted.symm.trans hs) nofun) fun hs => absurd (hhalted.symm.trans hs) nofun
  shorten {l s} hl h := h.requeue (fun hm => List.suffix_nil.mp (h.muted hm ▸ hl)) (hl.length_le.trans h.bound) (h.order.sublist hl.sublist)
  place q s hm hroom h := h.requeue (fun hs => absurd (hm.symm.trans hs) nofun) (by rw [insertStrike_length]; exact hroom)
    (insertStrike_pairwise q h.order)
  damp b e s hhalted h := h.same rfl rfl (fun hs => absurd (hhalted.symm.trans hs) nofun) fun hs => absurd (hhalted.symm.trans hs) nofun

theorem MuteSet.has_put (r x : MuteReason) (v : Bool) (m : MuteSet) : (m.put r v).has x = if x = r then v else m.has x := by
  cases r <;> cases x <;> rfl

/-- A reason that leaves the set brings no other. -/
theorem MuteSet.has_of_put_false {r x : MuteReason} {m : MuteSet} (h : (m.put r false).has x = true) : m.has x = true := by
  rw [MuteSet.has_put] at h
  split at h
  · cases h
  · exact h

theorem MuteSet.halted_iff (m : MuteSet) : m.halted = true ↔ (m.has .supply = true ∨ m.has .service = true) ∨ m.has .thermal = true := by
  simp only [MuteSet.halted, MuteSet.has, Bool.or_eq_true]

theorem MuteSet.muted_iff (m : MuteSet) : m.muted = true ↔ (m.has .operator = true ∨ m.has .hush = true) ∨ m.halted = true := by
  simp only [MuteSet.muted, MuteSet.has, Bool.or_eq_true]

theorem haltHasCut_iff (s : State) : haltHasCut s = true ↔ Config.walkEndCutsPulses = true ∨
    Config.laterHaltCutsPulses = true ∧ (s.sv.mute.has .service = true ∨ s.sv.mute.has .thermal = true) := by
  simp only [haltHasCut, MuteSet.has, Bool.or_eq_true, Bool.and_eq_true]

/-- Once a reason leaves the set, no halt, no mute and no cut stands that did not stand before (R175). -/
theorem StrikeSafe.unmute (r : MuteReason) (h : StrikeSafe s) : StrikeSafe (setReason r false s) := by
  have hhas : ∀ {x}, (setReason r false s).sv.mute.has x = true → s.sv.mute.has x = true := MuteSet.has_of_put_false
  have hhalted : (setReason r false s).halted = true → s.halted = true := fun ht =>
    (MuteSet.halted_iff _).mpr (((MuteSet.halted_iff _).mp ht).imp (.imp hhas hhas) hhas)
  have hmuted : (setReason r false s).muted = true → s.muted = true := fun ht =>
    (MuteSet.muted_iff _).mpr (((MuteSet.muted_iff _).mp ht).imp (.imp hhas hhas) hhalted)
  have hcut : haltHasCut (setReason r false s) = true → haltHasCut s = true := fun ht =>
    (haltHasCut_iff s).mpr (((haltHasCut_iff _).mp ht).imp_right (.imp_right (.imp hhas hhas)))
  exact ⟨fun ht hc => h.cut (hhalted ht) (hcut hc), fun ht => h.damped (hhalted ht), fun ht => h.muted (hmuted ht), h.bound, h.order⟩


theorem strikeSafe_towerRules : TowerRules StrikeSafe where
  toBellRules := strikeSafe_bellRules
  reason hrule _ h := h.reason hrule
  unmute r _ h := h.unmute r
  adopt {s t} hst hmute h := strikeSafe_bellRules.adoptBells_kept
    (h.same hmute (by rw [hst]) (fun _ b => by rw [State.chan, hst]; exact id) fun _ b => by rw [State.chan, State.chan, hst]; exact id)
  softReset _ := .of_rest (by rw [softReset_st]; rfl) (fun b => by rw [softReset_chan]; nofun) fun b => by rw [softReset_chan]; rfl
  powerOn b1 b0 s _ := .of_rest rfl (fun b => by rw [powerOn_chan]; nofun) fun b => by rw [powerOn_chan]; rfl

/-- Settles O55: the rules of `strikeSafe_towerRules`, and the passage over a step. -/
theorem everyStepKeepsStrikeSafe : Obligations.EveryStepKeepsStrikeSafe := fun _ _ h hs => strikeSafe_towerRules.step_kept h hs

end Sys2Proof.Machine
end

section
/-! SUPPORT. CLEAR_FAULT of a bell, a figure axis and a door on a ready link (R118, R151, R162). -/

namespace Sys2Proof.Machine

/-! ## The tables -/

/-- The table of R118, field by field. -/
theorem Channel.clearFault_eq (c : Channel) :
    c.clearFault =
      { c with
        state := if c.state = .faultOff ∨ c.state = .retryReady ∨ c.state = .lockedOut then .ready else c.state
        offEnd := if c.state = .faultOff then none else c.offEnd
        faultCount := 0
        trial := if c.state = .ready then c.trial else false } := by
  obtain ⟨st⟩ := c
  cases st with
  | ready | pulse | recovery | faultOff | retryReady | lockedOut => rfl

/-- A home request written out (R139): a held target stays with its runner. -/
theorem AxisRecord.giveHome_eq (r : AxisRecord) :
    r.giveHome =
      { r with
        state := .unreferenced
        homeRequest := true
        referenced := false
        position := 0
        target := if r.held then r.target else none
        runner := if r.held then r.runner else none
        dwellEnd := none
        waitHoming := false
        drive := none
        tripAt := none
        offEnd := none } := by
  cases h : r.held <;> simp [AxisRecord.giveHome, AxisRecord.stop, AxisRecord.loseReference, h]

/-- The table of R151: an axis at rest after a fault is given a home request, any other only loses its count. -/
theorem AxisRecord.clearFault_eq (r : AxisRecord) :
    r.clearFault =
      if r.state = .faultOff ∨ r.state = .lockedOut then { r with faultCount := 0, offEnd := none }.giveHome
      else { r with faultCount := 0 } := by
  obtain ⟨st⟩ := r
  cases st with
  | unreferenced | homing | idle | moving | dwelling | waitDoor | faultOff | lockedOut => rfl

/-- The table of R162. -/
theorem DoorRecord.clearFault_eq (r : DoorRecord) :
    r.clearFault =
      { r with
        faultCount := 0
        offEnd := if r.state = .fault then none else r.offEnd
        release := r.release || r.state == .fault } := by
  by_cases h : r.state = .fault <;> simp [DoorRecord.clearFault, h]

/-! ## The answers -/

theorem isDoor_of_isFigure {s : State} {a : Axis} (h : s.isFigure a = true) : s.isDoor a = false := by
  unfold State.isFigure at h
  unfold State.isDoor
  cases hp : s.axisProfile a with
  | none => rfl
  | some p => simpa [hp] using h

/-- CLEAR_FAULT of a present bell. -/
theorem clearBell_clears {n : Nat} {b : Bell} {s : State} (hn : n = b.val) (hpresent : s.bellPresent b = true) :
    clearBell n s =
      ⟨.ok, [.u8 (some (s.chan b).state.num), .u8 (some ((s.modChan b Channel.clearFault).chan b).state.num)],
        if (s.chan b).state = .faultOff ∨ (s.chan b).state = .lockedOut then examineStrikes (s.modChan b Channel.clearFault)
        else s.modChan b Channel.clearFault⟩ := by
  simp only [clearBell, bellOf_val hn, hpresent]
  rfl

/-- CLEAR_FAULT of a present figure axis. -/
theorem clearAxis_clears_figure {n : Nat} {a : Axis} {s : State} (hn : n = a.val) (hfigure : s.isFigure a = true) :
    clearAxis n s =
      ⟨.ok, [.u8 (some (s.axis a).state.num), .u8 (some ((settleMotion (s.modAxis a AxisRecord.clearFault)).axis a).state.num)],
        s.modAxis a AxisRecord.clearFault⟩ := by
  simp only [clearAxis, axisOf_val hn, isDoor_of_isFigure hfigure, hfigure]
  rfl

/-- CLEAR_FAULT of a present door. -/
theorem clearAxis_clears_door {n : Nat} {d : Axis} {s : State} (hn : n = d.val) (hdoor : s.isDoor d = true) :
    clearAxis n s =
      ⟨.ok, [.u8 (some (s.door d).state.num), .u8 (some ((settleMotion (s.modDoor d DoorRecord.clearFault)).door d).state.num)],
        s.modDoor d DoorRecord.clearFault⟩ := by
  simp only [clearAxis, axisOf_val hn, hdoor]
  rfl

/-- Settles O11: each class's answer, with its record's table written out. -/
theorem clearFaultActsByClass : Obligations.ClearFaultActsByClass := by
  intro dt tag s u hu h
  refine ⟨fun b n hn hpresent => ?_, fun a n hn hfigure => ?_, fun d n hn hdoor => ?_⟩
  · refine ⟨u.modChan b Channel.clearFault, by rw [funext Channel.clearFault_eq], ?_⟩
    exact act_answers hu h rfl rfl rfl (clearBell_clears hn hpresent)
  · refine ⟨u.modAxis a AxisRecord.clearFault, ?_, ?_⟩
    · simp only [funext AxisRecord.clearFault_eq, AxisRecord.giveHome_eq]
    · exact act_answers hu h rfl rfl rfl (clearAxis_clears_figure hn hfigure)
  · refine ⟨u.modDoor d DoorRecord.clearFault, by rw [funext DoorRecord.clearFault_eq], ?_⟩
    exact act_answers hu h rfl rfl rfl (clearAxis_clears_door hn hdoor)

end Sys2Proof.Machine
end

section
/-! SUPPORT. The timers of a hammer channel and of its damper, the pickup, and a bell's comparators (R112, R116, R121, R124, R126). -/

namespace Sys2Proof.Machine

section
variable {s : State} {b : Bell}

/-- Two updates that agree on the channel as it stands give the same state. -/
theorem modChan_congr {f g : Channel → Channel} (h : f (s.chan b) = g (s.chan b)) : s.modChan b f = s.modChan b g := by
  unfold State.chan at h
  simp only [State.modChan, State.modSt, h]

/-! ## Timers -/

theorem bellOffTimeEnd_gives {e : Nat} (hoff : (s.chan b).state = .faultOff) (hend : (s.chan b).offEnd = some e) (he : e ≤ s.now) :
    bellOffTimeEnd b s = examineStrikes (s.modChan b fun c => { c with state := .retryReady, offEnd := none }) := by
  simp [bellOffTimeEnd, hoff, hend, he]

theorem decayTick_gives (htick : s.now % 100000 = 0) : decayTick s = reportWarm (forEach decayBell allBells s) := if_pos htick

theorem damperEnd_gives {e : Nat} (hend : (s.chan b).dampEnd = some e) (he : e ≤ s.now) :
    damperEnd b s = s.modChan b fun c => { c with dampEnd := none } := by simp [damperEnd, hend, he]

/-! ## Verification (R126) -/

/-- A pickup edge is heard in an open window. -/
theorem pickupEdge_gives {e : Nat} {heard : Bool} (hopen : (s.chan b).verification = .open e heard) :
    pickupEdge b s = s.modChan b fun c => { c with verification := .open e true } :=
  modChan_congr (by simp only [hopen])

theorem verifyWindowEnd_gives {e : Nat} {heard : Bool} (hopen : (s.chan b).verification = .open e heard) (he : e ≤ s.now) :
    verifyWindowEnd b s =
      if (s.chan b).state = .pulse then s.modChan b fun c => { c with verification := .awaitingEnd heard } else verdict b heard s := by
  simp only [verifyWindowEnd, hopen, he, if_true]

/-! ## Comparators (R112) -/

/-- In a pulse in which no run is timed, HLIM becoming active starts the timing of one. -/
theorem hlimChange_starts (hpulse : (s.chan b).state = .pulse) (hnone : (s.chan b).tripAt = none) :
    hlimChange b true s = (s.modPins fun p => { p with hlim := putBit p.hlim b.val true }).modChan b fun c =>
      { c with tripAt := some (s.now + blankingTime (s.bellProfile b).blankCode + 1) } := by
  have hchan : ((s.modPins fun p => { p with hlim := putBit p.hlim b.val true }).chan b).tripAt = none := hnone
  simp only [hlimChange, hpulse, if_true]
  exact modChan_congr (by simp only [hchan, Option.none_or])

/-- In a pulse, HLIM becoming inactive forgets the run. -/
theorem hlimChange_forgets (hpulse : (s.chan b).state = .pulse) :
    hlimChange b false s = (s.modPins fun p => { p with hlim := putBit p.hlim b.val false }).modChan b fun c =>
      { c with tripAt := none } := by
  simp [hlimChange, hpulse]

/-- In a pulse, HPRS becoming active is the presence seen. -/
theorem hprsChange_sees (hpulse : (s.chan b).state = .pulse) :
    hprsChange b true s = (s.modPins fun p => { p with hprs := putBit p.hprs b.val true }).modChan b fun c =>
      { c with presenceSeen := true } := by
  simp [hprsChange, hpulse]

end

/-- Settles O30: each command's effect on the state of its instant. -/
theorem channelInputsAndTimers : Obligations.ChannelInputsAndTimers := by
  refine ⟨fun dt e b s u hu => ⟨fun hoff hend he => ?_, fun htick => ?_, fun hend he => ?_, fun heard hopen => ?_,
    fun heard hopen he => ?_⟩, fun dt b s u hu hpulse => ⟨fun hnone => ?_, ?_, ?_⟩⟩
  · exact event_answers hu _ (bellOffTimeEnd_gives hoff hend he)
  · exact event_answers hu _ (decayTick_gives htick)
  · exact event_answers hu _ (damperEnd_gives hend he)
  · exact event_answers hu _ (pickupEdge_gives hopen)
  · exact event_answers hu _ (verifyWindowEnd_gives hopen he)
  · exact event_answers hu _ (hlimChange_starts hpulse hnone)
  · exact event_answers hu _ (hlimChange_forgets hpulse)
  · exact event_answers hu _ (hprsChange_sees hpulse)

end Sys2Proof.Machine
end

section
/-! SUPPORT. The counts and the targets of the figure axes: what a count does to the distance that remains (R136, R137), a follower's target
(R146), targets that are dropped (R134, R138), and what a fault leaves (R148 to R150). -/

namespace Sys2Proof.Machine

/-! ## Distances and counts round a revolution (R136, R137) -/

/-- A difference of two places of a revolution, reduced to it. -/
theorem sub_round (n : Nat) {x y : Nat} (hx : x < n) : (x + n - y) % n = if y ≤ x then x - y else x + n - y := by
  split
  · rw [show x + n - y = x - y + n by omega, Nat.add_mod_right, Nat.mod_eq_of_lt (by omega)]
  · exact Nat.mod_eq_of_lt (by omega)

section
variable {p : AxisProfile} {pos t : Nat}

theorem axisDistance_rotary_forward (hk : p.kind = .rotary) (ht : t < p.size) :
    axisDistance p .forward pos t = if pos ≤ t then t - pos else t + p.size - pos := by
  simp only [axisDistance, hk, sub_round p.size ht]

theorem axisDistance_rotary_reverse (hk : p.kind = .rotary) (hpos : pos < p.size) :
    axisDistance p .reverse pos t = if t ≤ pos then pos - t else pos + p.size - t := by
  simp only [axisDistance, hk, sub_round p.size hpos]

theorem nextPosition_rotary_forward (hk : p.kind = .rotary) (hpos : pos < p.size) :
    nextPosition p .forward pos = if pos + 1 = p.size then 0 else pos + 1 := by
  simp only [nextPosition, hk]
  split
  · next h => rw [h, Nat.mod_self]
  · exact Nat.mod_eq_of_lt (by omega)

theorem nextPosition_rotary_reverse (hk : p.kind = .rotary) (hpos : pos < p.size) :
    nextPosition p .reverse pos = if 1 ≤ pos then pos - 1 else pos + p.size - 1 := by
  simp only [nextPosition, hk, sub_round p.size hpos]

/-- A count keeps a ROTARY axis on its revolution. -/
theorem nextPosition_rotary_lt (hk : p.kind = .rotary) (dir : Direction) (hpos : pos < p.size) : nextPosition p dir pos < p.size := by
  cases dir with
  | forward => rw [nextPosition_rotary_forward hk hpos]; split <;> omega
  | reverse => rw [nextPosition_rotary_reverse hk hpos]; split <;> omega

/-- Round the revolution of a ROTARY axis every count comes one nearer, whichever way it is driven. -/
theorem rotary_count_approaches (hk : p.kind = .rotary) (dir : Direction) (hne : pos ≠ t) (hpos : pos < p.size) (ht : t < p.size) :
    axisDistance p dir (nextPosition p dir pos) t + 1 = axisDistance p dir pos t := by
  have hnext := nextPosition_rotary_lt hk dir hpos
  cases dir with
  | forward =>
    rw [axisDistance_rotary_forward hk ht, axisDistance_rotary_forward hk ht, nextPosition_rotary_forward hk hpos]
    split_ifs <;> omega
  | reverse =>
    rw [axisDistance_rotary_reverse hk hnext, axisDistance_rotary_reverse hk hpos, nextPosition_rotary_reverse hk hpos]
    split_ifs <;> omega

/-- A LINEAR axis is driven toward a target it does not stand at. -/
theorem axisDirection_linear (hk : p.kind = .linear) (hne : pos ≠ t) :
    axisDirection p pos t = if pos < t then .forward else .reverse := by
  simp only [axisDirection, hk]
  split
  · rfl
  · rw [if_pos (by omega)]

/-- Along the track of a LINEAR axis every count toward the target comes one nearer. -/
theorem linear_count_approaches (hk : p.kind = .linear) (hne : pos ≠ t) :
    axisDistance p (axisDirection p pos t) (nextPosition p (axisDirection p pos t) pos) t + 1 =
      axisDistance p (axisDirection p pos t) pos t := by
  rw [axisDirection_linear hk hne]
  by_cases h : pos < t
  · simp only [if_pos h, axisDistance, nextPosition, hk]
    omega
  · simp only [if_neg h, axisDistance, nextPosition, hk]
    omega

/-- The distances of the two directions round a revolution make it up. -/
theorem axisDistance_rotary_sum (hk : p.kind = .rotary) (hne : pos ≠ t) (hpos : pos < p.size) (ht : t < p.size) :
    axisDistance p .forward pos t + axisDistance p .reverse pos t = p.size := by
  rw [axisDistance_rotary_forward hk ht, axisDistance_rotary_reverse hk hpos]
  split_ifs <;> omega

/-- SHORTEST chooses the direction of the smaller distance. -/
theorem axisDistance_shortest_le (hk : p.kind = .rotary) (hshortest : p.policy = .shortest) (dir : Direction) :
    axisDistance p (axisDirection p pos t) pos t ≤ axisDistance p dir pos t := by
  simp only [axisDirection, hk, hshortest]
  cases dir with
  | forward | reverse => split <;> omega

end

/-- Settles O40: each kind of axis by its own distances; SHORTEST by the two directions' sum. -/
theorem countsApproachTarget : Obligations.CountsApproachTarget := by
  intro p dir pos t hne
  refine ⟨fun hk hpos ht => ?_, fun hk hdir => ?_, fun hk hshortest hdir hpos ht => ?_⟩
  · exact ⟨rotary_count_approaches hk dir hne hpos ht, nextPosition_rotary_lt hk dir hpos⟩
  · rw [hdir]
    exact linear_count_approaches hk hne
  · have hsum := axisDistance_rotary_sum hk hne hpos ht
    have hf : axisDistance p dir pos t ≤ axisDistance p .forward pos t := hdir ▸ axisDistance_shortest_le hk hshortest .forward
    have hr : axisDistance p dir pos t ≤ axisDistance p .reverse pos t := hdir ▸ axisDistance_shortest_le hk hshortest .reverse
    omega

/-! ## Followers (R146) -/

section
variable {p : AxisProfile} {t : Target}

theorem followerTarget_home (hs : t.source = .home) : followerTarget p t = ⟨0, .home, none⟩ := if_pos hs

theorem followerTarget_same (hs : t.source ≠ .home) (hf : p.follow = .same) : followerTarget p t = ⟨t.pos, .leader, none⟩ := by
  simp only [followerTarget, if_neg hs, hf]

theorem followerTarget_mirror_rotary (hs : t.source ≠ .home) (hf : p.follow = .mirror) (hk : p.kind = .rotary) :
    followerTarget p t = ⟨(p.size - t.pos) % p.size, .leader, none⟩ := by
  simp only [followerTarget, if_neg hs, hf, hk]

theorem followerTarget_mirror_linear (hs : t.source ≠ .home) (hf : p.follow = .mirror) (hk : p.kind = .linear) :
    followerTarget p t = ⟨p.size - t.pos, .leader, none⟩ := by
  simp only [followerTarget, if_neg hs, hf, hk]

end

/-- The mirror of a place on a revolution mirrors back to it. -/
theorem mirror_round {c x : Nat} (h : x < c) : (c - (c - x) % c) % c = x := by
  rcases Nat.eq_zero_or_pos x with rfl | hx
  · simp
  · rw [Nat.mod_eq_of_lt (a := c - x) (by omega), Nat.mod_eq_of_lt (by omega)]
    omega

/-- Settles O41: the four forms of a follower's target, and both mirrors. -/
theorem followerTargetsMirror : Obligations.FollowerTargetsMirror := by
  refine fun p t => ⟨followerTarget_home, followerTarget_same, fun hs hf hk hpos => ?_, fun hs hf hk hpos => ?_⟩
  · rw [followerTarget_mirror_rotary hs hf hk, followerTarget_mirror_rotary (t := ⟨_, t.source, none⟩) hs hf hk]
    refine ⟨?_, rfl, rfl, Nat.mod_lt _ (by omega), mirror_round hpos⟩
    rw [Int.natCast_emod, Nat.cast_sub hpos.le]
  · rw [followerTarget_mirror_linear hs hf hk, followerTarget_mirror_linear (t := ⟨_, t.source, none⟩) hs hf hk]
    exact ⟨Nat.cast_sub hpos, rfl, rfl, Nat.sub_le _ _, Nat.sub_sub_self hpos⟩

/-! ## Dropped targets (R134, R138, R142) -/

/-- What bars an axis from every target: a halt reason, LOCKED, its absence, a fault's state, or no reference and no home request. -/
theorem giveOne_barred {t : Target} {a : Axis} {s : State}
    (h : s.halted = true ∨ s.partLocked = true ∨ s.isFigure a = false ∨ (s.axis a).state = .faultOff ∨ (s.axis a).state = .lockedOut ∨
      ((s.axis a).state = .unreferenced ∧ (s.axis a).homeRequest = false)) :
    giveOne t a s = (s.modAxis a (·.refuseTarget t), .dropped) := by
  unfold giveOne
  dsimp only
  split
  · rfl
  · next hbar =>
    simp only [Bool.or_eq_true, Bool.not_eq_true', not_or] at hbar
    obtain ⟨⟨hfigure, hhalt⟩, hlock⟩ := hbar
    obtain h | h | h | h | h | ⟨h, hreq⟩ := h
    · exact absurd h hhalt
    · exact absurd h hlock
    · exact absurd h hfigure
    · rw [h]
    · rw [h]
    · simp only [h, hreq, Bool.false_eq_true, if_false]

/-- A dropped target goes no further than its axis. -/
theorem give_dropped {t : Target} {a : Axis} {s v : State} (h : giveOne t a s = (v, .dropped)) : give t a s = v := by
  simp [give, giveWith, h]

/-- Settles O42: the axis drops the target by its bar, and so nobody follows. -/
theorem barredTargetsAreDropped : Obligations.BarredTargetsAreDropped := fun _ _ _ h => give_dropped (giveOne_barred h)

/-! ## Faults (R148 to R150) -/

section
variable {p : AxisProfile} {k : AxisFaultKind} {now : Nat} {r : AxisRecord}

/-- Whether the fault's new count lets the axis be retried decides its state and its off-time (R150). -/
theorem AxisRecord.fault_of_retry {off : Bool} (h : (p.autoretry && decide (min (r.faultCount + 1) 3 < 3)) = off) :
    (r.fault p k now).state = (if off then .faultOff else .lockedOut) ∧
      (r.fault p k now).offEnd = if off then some (now + retryOffTime p.retryCode) else none := by
  subst h
  exact ⟨rfl, rfl⟩

theorem AxisRecord.fault_retried (hauto : p.autoretry = true) (hcount : r.faultCount < 2) :
    (r.fault p k now).state = .faultOff ∧ (r.fault p k now).offEnd = some (now + retryOffTime p.retryCode) :=
  AxisRecord.fault_of_retry (off := true) (by rw [hauto, decide_eq_true (by omega), Bool.and_true])

theorem AxisRecord.fault_locks_out (h : p.autoretry = false ∨ 2 ≤ r.faultCount) :
    (r.fault p k now).state = .lockedOut ∧ (r.fault p k now).offEnd = none := by
  refine AxisRecord.fault_of_retry (off := false) ?_
  rcases h with hauto | hcount
  · rw [hauto, Bool.false_and]
  · rw [decide_eq_false (by omega), Bool.and_false]

/-- Only an OVERCURRENT is recorded with a trip level. -/
theorem AxisRecord.fault_lastFault :
    (r.fault p k now).lastFault = some ⟨k, now, if k = .overcurrent then some (tripLevel p.limitCode) else none⟩ := rfl

/-- The kinds that leave the axis its reference leave its position too. -/
theorem AxisRecord.fault_keeps_reference (h : k.losesReference = false) :
    (r.fault p k now).referenced = r.referenced ∧ (r.fault p k now).position = r.position := by
  simp [AxisRecord.fault, h, AxisRecord.dropTarget, AxisRecord.stop]

theorem AxisRecord.fault_loses_reference (h : k.losesReference = true) : (r.fault p k now).referenced = false := by
  simp [AxisRecord.fault, h, AxisRecord.loseReference]

/-- No kind leaves a drive, a target or a runner. -/
theorem AxisRecord.fault_drops :
    (r.fault p k now).drive = none ∧ (r.fault p k now).target = none ∧ (r.fault p k now).runner = none := by
  cases k with
  | stall | overcurrent | timeout | limit => exact ⟨rfl, rfl, rfl⟩

end

/-- Settles O43, field by field. -/
theorem axisFaultLeaves : Obligations.AxisFaultLeaves := by
  intro p k now r f
  obtain ⟨hdrive, htarget, hrunner⟩ := AxisRecord.fault_drops (p := p) (k := k) (now := now) (r := r)
  refine ⟨hdrive, htarget, hrunner, rfl, ⟨_, AxisRecord.fault_lastFault, fun hk => if_neg hk⟩, AxisRecord.fault_retried,
    AxisRecord.fault_locks_out, fun hk => ?_, fun hk => ?_⟩
  · exact AxisRecord.fault_keeps_reference (by rcases hk with rfl | rfl <;> rfl)
  · exact AxisRecord.fault_loses_reference (by rcases hk with rfl | rfl <;> rfl)

/-! ## The frame -/

/-- Settles O44: the frame of each operation, from the state itself. -/
theorem motionTouchesOnlyMotion : Obligations.MotionTouchesOnlyMotion := fun t a k set f s =>
  have h := OnlyMotion.refl s
  ⟨give_onlyMotion t a h, countAxis_onlyMotion a h, dwellNext_onlyMotion a listFuel h, axisFault_onlyMotion k a h,
    endHoming_onlyMotion a h, demandDoors_onlyMotion set f h, doorOverCurrent_onlyMotion a h, settleMotion_onlyMotion h,
    park_onlyMotion h⟩

end Sys2Proof.Machine
end

section
/-! SUPPORT. MOVE_AXIS and HOME_AXIS on a ready link (R144, R145). -/

namespace Sys2Proof.Machine

section
variable {a : Axis} {n : Byte} {s : State} (hn : n.toNat = a.val) (hlock : s.partLocked = false) (hidle : s.pe.engine = .idle)
include hn hlock hidle

/-- Past its checks on the part, a MOVE_AXIS is judged by what its axis is (R144). -/
theorem moveAxis_of_axis {q : Byte} (hpresenting : s.presenting = true) (hhalt : s.halted = false) (hq : q.toNat ≤ 15) :
    moveAxis [n, q] s =
      if s.isDoor a then (if 1 < q.toNat then refuse .badArgument s else moveDoor q.toNat a s)
      else if !s.isFigure a then refuse .notPresent s
      else if (s.leader a).isSome || (s.axis a).state.refusesMove then refuse .refusedState s
      else moveFigure q.toNat a s := by
  have haxis : axisOf (byteAt [n, q] 0) = some a := axisOf_val hn
  have hpose : ¬ 15 < byteAt [n, q] 1 := Nat.not_lt.mpr hq
  simp only [moveAxis, haxis, hlock, State.engineIdle, hidle, hpresenting, hhalt, hpose, if_false]
  rfl

theorem homeAxis_requests (hservice : s.sv.presentation.inService = false) (hfigure : s.isFigure a = true)
    (hoff : (s.axis a).state ≠ .faultOff) (hout : (s.axis a).state ≠ .lockedOut) :
    homeAxis [n] s = ⟨.accepted, [], s.modAxis a AxisRecord.requestHome⟩ := by
  have haxis : axisOf (byteAt [n] 0) = some a := axisOf_val hn
  simp [homeAxis, haxis, hlock, State.engineIdle, hidle, hservice, isDoor_of_isFigure hfigure, hfigure, hoff, hout, requestHome]

end

/-- Settles O10: each request's answer, past the checks that its hypotheses answer. -/
theorem moveAndHomeRequests : Obligations.MoveAndHomeRequests := by
  refine ⟨fun dt tag a n q s u hu h hn hlock hidle hpresenting hhalt => ⟨fun hfigure hq hleader hstate => ⟨_, rfl, ?_⟩,
    fun hdoor hq => ⟨_, rfl, ?_⟩⟩, fun dt tag a n s u hu h hn hlock hidle hservice hfigure hoff hout => ?_⟩
  · have hmove : moveAxis [n, q] u = moveFigure q.toNat a u := by
      rw [moveAxis_of_axis hn hlock hidle hpresenting hhalt hq, isDoor_of_isFigure hfigure, hfigure, hleader, hstate]
      rfl
    exact act_answers hu h rfl rfl rfl hmove
  · have hmove : moveAxis [n, q] u = moveDoor q.toNat a u := by
      rw [moveAxis_of_axis hn hlock hidle hpresenting hhalt (hq.trans (by decide)), if_pos hdoor]
      exact if_neg (Nat.not_lt.mpr hq)
    exact act_answers hu h rfl rfl rfl hmove
  · exact act_answers hu h rfl rfl rfl (homeAxis_requests hn hlock hidle hservice hfigure hoff hout)

end Sys2Proof.Machine
end

section
/-! SUPPORT. What the counts, the switches, the comparators and the timers of the figure axes and the doors do to the state of their instant
(R135 to R137, R140, R142, R148 to R150, R160, R161). -/

namespace Sys2Proof.Machine

/-! ## Updates of one record -/

section
variable {s : State} {a : Axis}

@[simp] theorem modPins_axis (f : Pins → Pins) : (s.modPins f).axis a = s.axis a := rfl

/-- Two updates of a record are one. -/
theorem modAxis_modAxis (f g : AxisRecord → AxisRecord) : (s.modAxis a f).modAxis a g = s.modAxis a fun r => g (f r) := by
  simp [State.modAxis, State.modMu]

/-- Two updates that agree on the axis's record as it stands give the same state. -/
theorem modAxis_congr {f g : AxisRecord → AxisRecord} (h : f (s.axis a) = g (s.axis a)) : s.modAxis a f = s.modAxis a g := by
  unfold State.axis at h
  simp only [State.modAxis, State.modMu, h]

/-- Two updates that agree on the door's record as it stands give the same state. -/
theorem modDoor_congr {f g : DoorRecord → DoorRecord} (h : f (s.door a) = g (s.door a)) : s.modDoor a f = s.modDoor a g := by
  unfold State.door at h
  simp only [State.modDoor, State.modMu, h]

/-- An update that leaves the door's record as it stands leaves the state. -/
theorem modDoor_fixed {f : DoorRecord → DoorRecord} (h : f (s.door a) = s.door a) : s.modDoor a f = s := by
  rw [modDoor_congr (g := id) h]
  simp [State.modDoor, State.modMu]

/-! ## The kind of an axis -/

/-- A present door is an axis of kind DOOR in the working profile. -/
theorem isDoor_iff : s.isDoor a = true ↔ ∃ p, s.axisProfile a = some p ∧ p.kind = .door := by
  unfold State.isDoor
  cases s.axisProfile a with
  | none => simp
  | some p => simp

/-- The limit watch judges LINEAR axes alone (R149). -/
theorem judgeLimit_of_isDoor (h : s.isDoor a = true) : judgeLimit a s = s := by
  obtain ⟨p, hp, hk⟩ := isDoor_iff.mp h
  simp [judgeLimit, hp, hk]

/-! ## Counts, reversals and dwells (R135, R136, R142) -/

section
variable {d : Drive} (hdrive : (s.axis a).drive = some d)
include hdrive

/-- A count in the dead time of a reversal is not counted. -/
theorem countAxis_dead (hdead : d.deadUntil.isSome = true) : countAxis a s = s := by
  unfold countAxis
  rw [hdrive]
  split
  · next he =>
    cases he
    exact if_pos hdead
  · rfl

variable {p : AxisProfile} (hp : s.axisProfile a = some p) (hdead : d.deadUntil = none)
include hp hdead

/-- A count of a homing drive restarts the stall timer alone. -/
theorem countAxis_homing (hstate : (s.axis a).state = .homing) :
    countAxis a s = s.modAxis a fun r => { r with drive := some { d with stallFrom := s.now } } := by
  simp [countAxis, hp, hdrive, hdead, hstate]

variable {t : Target} (hstate : (s.axis a).state = .moving) (htarget : (s.axis a).target = some t)
include hstate htarget

/-- A count that does not arrive moves the position and chooses the duty anew. -/
theorem countAxis_moves (hpos : nextPosition p d.dir (s.axis a).position ≠ t.pos) :
    countAxis a s = s.modAxis a fun r =>
      { r with
        position := nextPosition p d.dir r.position
        drive := some { d with
          stallFrom := s.now
          duty := axisDuty p d.dir (nextPosition p d.dir r.position) t.pos } } := by
  simp only [countAxis, hp, hdrive, hdead, Option.isSome_none, Bool.false_eq_true, if_false, modAxis_axis_self, hstate, htarget, hpos,
    modAxis_modAxis, Option.map_some]
  exact modAxis_congr rfl

/-- A count that arrives rests the axis at its target with a fault count of 0; a list goes on from there. -/
theorem countAxis_arrives (hpos : nextPosition p d.dir (s.axis a).position = t.pos) :
    countAxis a s =
      let v := s.modAxis a fun r =>
        { r with
          position := t.pos
          drive := none
          tripAt := none
          state := .idle
          target := none
          held := false
          waitHoming := false
          faultCount := 0 }
      if t.source = .list then stepReached (dwellNext listFuel a) a v else v := by
  simp only [countAxis, hp, hdrive, hdead, Option.isSome_none, Bool.false_eq_true, if_false, modAxis_axis_self, hstate, htarget, hpos,
    if_true, arrive, modAxis_modAxis]
  rfl

end

/-- The end of an axis's dead time switches its gate on again. -/
theorem reversalEnd_of_axis {d : Drive} {e : Nat} (hdrive : (s.axis a).drive = some d) (hdead : d.deadUntil = some e) (he : e ≤ s.now)
    (hdoor : (s.door a).drive = none) :
    reversalEnd a s = s.modAxis a fun r => { r with drive := some { d with deadUntil := none } } := by
  have hend : d.endReversal s.now = { d with deadUntil := none } := by simp [Drive.endReversal, hdead, he]
  have hrest : (s.door a).drive.map (·.endReversal s.now) = (s.door a).drive := by rw [hdoor]; rfl
  unfold reversalEnd
  dsimp only
  rw [modDoor_fixed (congrArg (fun x => { s.door a with drive := x }) hrest)]
  exact modAxis_congr (by simp only [hdrive, Option.map_some, hend])

theorem dwellOver_gives {e : Nat} (hstate : (s.axis a).state = .dwelling) (hend : (s.axis a).dwellEnd = some e) (he : e ≤ s.now) :
    dwellOver a s = dwellNext listFuel a s := by simp [dwellOver, hstate, hend, he]

/-! ## Switches (R140, R149, R160, R161) -/

theorem homeSwitchChange_ends_homing (hdoor : s.isDoor a = false) (hstate : (s.axis a).state = .homing) :
    homeSwitchChange a true s = endHoming a (s.modPins fun p => { p with home := putBit p.home a.val true }) := by
  unfold homeSwitchChange
  rw [if_neg (by decide), hdoor, if_pos hstate]
  rfl

/-- A door's home switch is its CLOSED switch. -/
theorem homeSwitchChange_of_isDoor (hdoor : s.isDoor a = true) :
    homeSwitchChange a true s = doorArriveClosed a (s.modPins fun p => { p with home := putBit p.home a.val true }) := by
  unfold homeSwitchChange
  rw [if_neg (by decide), if_pos hdoor]

theorem doorArriveClosed_arrives (hstate : (s.door a).state = .closing) :
    doorArriveClosed a s = enterClosed a (s.modDoor a fun r => { r with faultCount := 0 }) := if_pos hstate

/-- A LINEAR axis driven forward faults at its far switch (R149). -/
theorem judgeLimit_faults {p : AxisProfile} (hp : s.axisProfile a = some p) (hk : p.kind = .linear)
    (hforward : ∃ d, (s.axis a).drive = some d ∧ d.dir = .forward) (hfar : farActive s a = true) :
    judgeLimit a s = axisFault .limit a s := by
  obtain ⟨d, hd, hdir⟩ := hforward
  simp [judgeLimit, hp, hk, hd, hdir, hfar]

@[simp] theorem axisFault_door (k : AxisFaultKind) (d : Axis) : (axisFault k a s).door d = s.door d := by
  unfold axisFault
  split <;> rfl

/-- A far switch that becomes active beside a door that neither is OPEN nor opens is the limit watch's matter alone. -/
theorem doorOpenSwitch_beside (hopening : (s.door a).state ≠ .opening) (hopen : (s.door a).state ≠ .open) (active : Bool) :
    doorOpenSwitch a active s = s := by
  unfold doorOpenSwitch
  split
  · next h => exact absurd h hopening
  · next h => exact absurd h hopen
  · next h => exact absurd h hopen
  all_goals rfl

theorem farSwitchChange_faults {p : AxisProfile} (hp : s.axisProfile a = some p) (hk : p.kind = .linear)
    (hopening : (s.door a).state ≠ .opening) (hopen : (s.door a).state ≠ .open)
    (hforward : ∃ d, (s.axis a).drive = some d ∧ d.dir = .forward) :
    farSwitchChange a true s = axisFault .limit a (s.modPins fun p => { p with far := putBit p.far a.val true }) := by
  have hlimit := judgeLimit_faults (s := s.modPins fun p => { p with far := putBit p.far a.val true }) hp hk hforward
    (getLsbD_putBit_self _ a.isLt)
  unfold farSwitchChange
  dsimp only
  rw [if_pos rfl, hlimit]
  exact doorOpenSwitch_beside (by rw [axisFault_door]; exact hopening) (by rw [axisFault_door]; exact hopen) true

/-- A door's far switch is its OPEN switch. -/
theorem farSwitchChange_of_isDoor (hdoor : s.isDoor a = true) (active : Bool) :
    farSwitchChange a active s = doorOpenSwitch a active (s.modPins fun p => { p with far := putBit p.far a.val active }) := by
  unfold farSwitchChange
  dsimp only
  rw [judgeLimit_of_isDoor (s := s.modPins _) hdoor, ite_self]

theorem doorOpenSwitch_arrives (hstate : (s.door a).state = .opening) :
    doorOpenSwitch a true s = enterOpen a (s.modDoor a fun r => { r with faultCount := 0 }) := by
  unfold doorOpenSwitch
  rw [hstate]

theorem doorOpenSwitch_returns (hstate : (s.door a).state = .open) :
    doorOpenSwitch a true s = s.modDoor a fun r => { r with openLost := none } := by
  unfold doorOpenSwitch
  rw [hstate]

theorem doorOpenSwitch_leaves (hstate : (s.door a).state = .open) (hlost : (s.door a).openLost = none) :
    doorOpenSwitch a false s = s.modDoor a fun r => { r with openLost := some s.now } := by
  unfold doorOpenSwitch
  rw [hstate]
  exact modDoor_congr (by simp only [hlost, Option.none_or])

/-! ## The current watch (R149, R161) -/

/-- On a driven axis on which no run is timed, ALIM becoming active starts the timing of one. -/
theorem alimChange_starts {p : AxisProfile} {d : Drive} (hp : s.axisProfile a = some p) (hdrive : (s.axis a).drive = some d)
    (htrip : (s.axis a).tripAt = none) (hdoor : (s.door a).drive = none) :
    alimChange a true s = (s.modPins fun p => { p with alim := putBit p.alim a.val true }).modAxis a fun r =>
      { r with tripAt := some (s.now + blankingTime p.blankCode + 1) } := by
  have hdoorRest (x : Option Nat) :
      (if (s.door a).drive.isSome then (s.door a).tripAt.or x else (s.door a).tripAt) = (s.door a).tripAt := by
    rw [hdoor]; rfl
  simp only [alimChange, Bool.not_true, Bool.false_eq_true, if_false, if_true, hp, Option.map_some]
  rw [modDoor_fixed (congrArg (fun x => { s.door a with tripAt := x }) (hdoorRest _))]
  exact modAxis_congr (by simp only [modPins_axis, hdrive, htrip, Option.isSome_some, if_true, Option.none_or, tripFrom])

theorem axisOvercurrent_faults {d : Drive} {e : Nat} (hdrive : (s.axis a).drive = some d) (htrip : (s.axis a).tripAt = some e)
    (he : e ≤ s.now) : axisOvercurrent a s = axisFault .overcurrent a s := by simp [axisOvercurrent, hdrive, htrip, he]

theorem doorOvercurrent_faults {d : Drive} {e : Nat} (hdrive : (s.door a).drive = some d) (htrip : (s.door a).tripAt = some e)
    (he : e ≤ s.now) : doorOvercurrent a s = doorOverCurrent a s := by simp [doorOvercurrent, hdrive, htrip, he]

/-! ## Timers (R148, R150, R161) -/

/-- A drive that has gone its limit from its instant is over it. -/
theorem driveOver_of_le {drive : Option Drive} {d : Drive} {from_ : Drive → Nat} {limit now : Nat} (hdrive : drive = some d)
    (hlate : from_ d + limit ≤ now) : driveOver drive from_ limit now = true := by
  rw [hdrive]
  exact decide_eq_true hlate

section
variable {p : AxisProfile} {d : Drive} (hp : s.axisProfile a = some p)
include hp

theorem axisStall_faults (hdrive : (s.axis a).drive = some d) (hlate : d.stallFrom + p.stallWindow * 1000 ≤ s.now) :
    axisStall a s = axisFault .stall a s := by
  unfold axisStall stallLimit
  rw [hp]
  exact if_pos (driveOver_of_le hdrive hlate)

theorem travelTimeout_faults (hdrive : (s.axis a).drive = some d) (hlate : d.start + p.travelTimeout * 1000000 ≤ s.now) :
    travelTimeout a s = axisFault .timeout a s := by
  unfold travelTimeout travelLimit
  rw [hp]
  exact if_pos (driveOver_of_le hdrive hlate)

theorem doorTimeout_faults (hdrive : (s.door a).drive = some d) (hlate : d.start + p.travelTimeout * 1000000 ≤ s.now) :
    doorTimeout a s = countDoorFault a (doorFault .timeout none a s) := by
  unfold doorTimeout travelLimit
  rw [hp]
  exact if_pos (driveOver_of_le hdrive hlate)

end

theorem axisOffTimeEnd_ends {e : Nat} (hstate : (s.axis a).state = .faultOff) (hoff : (s.axis a).offEnd = some e) (he : e ≤ s.now) :
    axisOffTimeEnd a s = s.modAxis a AxisRecord.endOffTime := by simp [axisOffTimeEnd, hstate, hoff, he]

theorem switchLost_faults {t : Nat} (hdoor : s.isDoor a = true) (hstate : (s.door a).state = .open)
    (hlost : (s.door a).openLost = some t) (ht : t + 200001 ≤ s.now) :
    switchLost a s = countDoorFault a (doorFault .switchLost none a s) := by simp [switchLost, hdoor, hstate, hlost, ht]

theorem doorOffTimeEnd_releases {e : Nat} (hoff : (s.door a).offEnd = some e) (he : e ≤ s.now) :
    doorOffTimeEnd a s = s.modDoor a fun r => { r with offEnd := none, release := true } := by simp [doorOffTimeEnd, hoff, he]

end

/-! ## The commands -/

/-- Settles O37: each command's effect on the state of its instant. -/
theorem countReversalAndDwell : Obligations.CountReversalAndDwell := by
  intro dt e a d s u hu
  refine ⟨fun p t hp hdrive hdead hstate htarget => ⟨fun hpos => ?_, fun hpos => ⟨_, rfl, ?_⟩⟩, fun p hp hdrive hdead hstate => ?_,
    fun hdrive hdead => ?_, fun hdrive hdead he hdoor => ?_, fun hstate hend he => ?_⟩
  · exact event_answers hu _ (countAxis_moves hdrive hp hdead hstate htarget hpos)
  · exact event_answers hu _ (countAxis_arrives hdrive hp hdead hstate htarget hpos)
  · exact event_answers hu _ (countAxis_homing hdrive hp hdead hstate)
  · exact event_answers hu _ (countAxis_dead hdrive hdead)
  · exact event_answers hu _ (reversalEnd_of_axis hdrive hdead he hdoor)
  · exact event_answers hu _ (dwellOver_gives hstate hend he)

/-- Settles O38: each switch's effect, on the state with the switch's new level. -/
theorem switchCommands : Obligations.SwitchCommands := by
  intro dt a s u hu
  refine ⟨fun hdoor hstate => ?_, ?_, fun p hp hk hopening hopen hforward => ?_, fun hdoor hstate => ?_, fun p hp hk hstate => ?_,
    fun hdoor hstate => ⟨fun hlost => ?_, ?_⟩⟩
  · exact event_answers hu _ (homeSwitchChange_ends_homing hdoor hstate)
  · exact event_answers hu (homeSwitchChange a false) rfl
  · exact event_answers hu _ (farSwitchChange_faults hp hk hopening hopen hforward)
  · exact event_answers hu _ ((homeSwitchChange_of_isDoor hdoor).trans (doorArriveClosed_arrives hstate))
  · have hdoor : u.isDoor a = true := isDoor_iff.mpr ⟨p, hp, hk⟩
    exact event_answers hu _ ((farSwitchChange_of_isDoor hdoor true).trans (doorOpenSwitch_arrives hstate))
  · exact event_answers hu _ ((farSwitchChange_of_isDoor hdoor false).trans (doorOpenSwitch_leaves hstate hlost))
  · exact event_answers hu _ ((farSwitchChange_of_isDoor hdoor true).trans (doorOpenSwitch_returns hstate))

/-- Settles O39: each watch and each timer, past its own condition. -/
theorem driveWatchesAndOffTimes : Obligations.DriveWatchesAndOffTimes := by
  refine ⟨fun dt e a p d s u hu hp => ⟨fun hdrive htrip hdoor _ => ?_, fun hdrive hlate => ?_, fun hdrive hlate => ?_,
    fun hdrive htrip he => ?_, fun hdrive hlate => ?_, fun hdrive htrip he => ?_⟩,
    fun dt e a s u hu he => ⟨fun hstate hoff => ?_, fun hdoor hstate hlost => ?_, fun hoff => ?_⟩⟩
  · exact event_answers hu _ (alimChange_starts hp hdrive htrip hdoor)
  · exact event_answers hu _ (axisStall_faults hp hdrive hlate)
  · exact event_answers hu _ (travelTimeout_faults hp hdrive hlate)
  · exact event_answers hu _ (axisOvercurrent_faults hdrive htrip he)
  · exact event_answers hu _ (doorTimeout_faults hp hdrive hlate)
  · exact event_answers hu _ (doorOvercurrent_faults hdrive htrip he)
  · exact event_answers hu _ (axisOffTimeEnd_ends hstate hoff he)
  · obtain ⟨t, ht, hte⟩ := hlost
    exact event_answers hu _ (switchLost_faults hdoor hstate ht (hte.trans_le he))
  · exact event_answers hu _ (doorOffTimeEnd_releases hoff he)

end Sys2Proof.Machine
end

section
/-! SUPPORT. The service button, the lamp and the hatch (R167, R169): what each of their effects gives where its condition holds. -/

namespace Sys2Proof.Machine

section
variable {s : State}

/-! ## The button and the lamp (R167) -/

theorem servicePress_presses (hactive : s.pins.serviceReq = true) (harmed : s.sv.reqArmed = true)
    (hrun : s.sv.reqFrom + 50000 ≤ s.now) : servicePress s = press (s.modSv fun u => { u with reqArmed := false }) :=
  if_pos ⟨hactive, harmed, hrun⟩

theorem serviceReqChange_becomes_active (hinactive : s.pins.serviceReq = false) :
    serviceReqChange true s = (s.modPins fun p => { p with serviceReq := true }).modSv fun u =>
      { u with
        reqFrom := s.now
        reqArmed := u.reqSinceReset || decide (u.reqFrom + 50000 ≤ s.now)
        reqSinceReset := false } := by
  unfold serviceReqChange
  rw [hinactive, if_neg (by decide)]
  rfl

theorem Lamp.toggle_due {on : Bool} {next now : Nat} (hdue : next ≤ now) :
    (Lamp.blink on next).toggle now = .blink (!on) (next + 500000) := if_pos hdue

/-! ## The hatch (R169) -/

theorem hatchShowsOpen_opens (hclosed : s.sv.hatchOpen = false) :
    hatchShowsOpen s = openHatch ((s.modPins fun p => { p with hatchOpen := true }).modSv fun u =>
      { u with hatchClosedFrom := none }) := by
  unfold hatchShowsOpen
  rw [hclosed]
  rfl

theorem hatchShowsClosed_times_run (hpin : s.pins.hatchOpen = true) (hopen : s.sv.hatchOpen = true) :
    hatchShowsClosed s = (s.modPins fun p => { p with hatchOpen := false }).modSv fun u =>
      { u with hatchClosedFrom := some s.now } := if_pos ⟨hpin, hopen⟩

theorem hatchCloses_after_run {t : Nat} (hfrom : s.sv.hatchClosedFrom = some t) (hrun : t + 50000 ≤ s.now) :
    hatchCloses s = s.modSv fun u => { u with hatchOpen := false, hatchClosedFrom := none } := by
  unfold hatchCloses
  rw [hfrom]
  exact if_pos hrun

end

/-! ## The commands -/

/-- Settles O45: each command is an event with its effect above, at an instant no earlier than the due one. -/
theorem serviceInputs : Obligations.ServiceInputs := by
  intro dt e s u hu he
  refine ⟨fun hactive harmed hdue => ?_, fun hinactive => ?_, fun on hlamp => ?_, fun hclosed => ?_, fun hpin hopen => ?_,
    fun ⟨t, hfrom, hdue⟩ => ?_⟩
  · exact event_answers hu _ (servicePress_presses hactive harmed (hdue.trans_le he))
  · exact event_answers hu _ (serviceReqChange_becomes_active hinactive)
  · have htoggle : u.sv.lamp.toggle u.now = .blink (!on) (e + 500000) := hlamp ▸ Lamp.toggle_due he
    exact event_answers hu (fun s => setLamp (s.sv.lamp.toggle s.now) s) (congrArg (setLamp · u) htoggle)
  · exact event_answers hu _ (hatchShowsOpen_opens hclosed)
  · exact event_answers hu _ (hatchShowsClosed_times_run hpin hopen)
  · exact event_answers hu _ (hatchCloses_after_run hfrom (hdue.trans_le he))

end Sys2Proof.Machine
end

section
/-! SUPPORT. SET_STATE, SERVICE and RESUME on a ready link (R167, R170, R185). -/

namespace Sys2Proof.Machine

variable {s : State}

/-! ## SET_STATE (R185) -/

/-- SET_STATE is taken where the part presents or is STILL, and acts by the state it carries (R185). -/
theorem setState_taken (h : s.sv.presentation = .run ∨ s.sv.presentation = .quiet ∨ s.sv.presentation = .still) :
    setState [0] s = stateReply (setPlaying .run s) ∧ setState [1] s = stateReply (setPlaying .quiet s) ∧
      setState [2] s = stateReply (setStill s) := by
  rcases h with h | h | h <;> simp only [setState, h] <;> exact ⟨rfl, rfl, rfl⟩

theorem setPlaying_presenting (p : Presentation) (h : s.sv.presentation ≠ .still) :
    setPlaying p s = enterPresentation p (putReason .operator (p == .quiet) s) := by rw [setPlaying, if_neg h]

/-- The park that STILL left owed is cancelled. -/
theorem setPlaying_from_still (p : Presentation) (h : s.sv.presentation = .still) :
    setPlaying p s = enterPresentation p (owePark false (putReason .operator (p == .quiet) s)) := by rw [setPlaying, if_pos h]

theorem setStill_presenting (h : s.sv.presentation ≠ .still) : setStill s = owePark true (enterPresentation .still s) := if_neg h

theorem setStill_from_still (h : s.sv.presentation = .still) : setStill s = s := if_pos h

/-! ## SERVICE and RESUME (R167, R170) -/

theorem serviceRequest_taken (p : List Byte)
    (h : s.sv.presentation = .run ∨ s.sv.presentation = .quiet ∨ s.sv.presentation = .still) :
    serviceRequest p s = ⟨.ok, [], enterServicePending s⟩ := by
  rcases h with h | h | h <;> rw [serviceRequest, h]

theorem resumeRequest_cancels (p : List Byte) (h : s.sv.presentation = .servicePending ∨ s.sv.presentation = .serviceReady) :
    resumeRequest p s = ⟨.ok, [], cancelService s⟩ := by
  rcases h with h | h <;> rw [resumeRequest, h]

theorem resumeRequest_leaves (p : List Byte) (h : s.sv.presentation = .service) (hclosed : s.sv.hatchOpen = false) :
    resumeRequest p s = ⟨.ok, [], leaveService s⟩ := by
  rw [resumeRequest, h]
  exact if_neg (Bool.eq_false_iff.mp hclosed)

/-- Settles O8: each request's answer in the presentation states that take it. -/
theorem presentationRequestsMoveTheState : Obligations.PresentationRequestsMoveTheState := by
  intro dt tag s u hu h ok
  have answers {b : Byte} {v : State} (hb : setState [b] u = stateReply v) : ok b v := act_answers hu h rfl rfl rfl hb
  refine ⟨fun hp => ?_, fun hp => ?_, fun hp => ?_, fun hp => ?_, fun hp hclosed => ?_⟩
  · have hne : u.sv.presentation ≠ .still := by rcases hp with hp | hp <;> rw [hp] <;> decide
    obtain ⟨hrun, hquiet, hstill⟩ := setState_taken (hp.imp_right .inl)
    rw [setPlaying_presenting _ hne] at hrun hquiet
    rw [setStill_presenting hne] at hstill
    exact ⟨answers hrun, answers hquiet, answers hstill⟩
  · obtain ⟨hrun, hquiet, hstill⟩ := setState_taken (.inr (.inr hp))
    rw [setPlaying_from_still _ hp] at hrun hquiet
    rw [setStill_from_still hp] at hstill
    exact ⟨answers hrun, answers hquiet, answers hstill⟩
  · exact act_answers hu h rfl rfl rfl (serviceRequest_taken [] hp)
  · exact act_answers hu h rfl rfl rfl (resumeRequest_cancels [] hp)
  · exact act_answers hu h rfl rfl rfl (resumeRequest_leaves [] hp hclosed)

end Sys2Proof.Machine
end

section
/-! SUPPORT. The monitors' samples and the CODE input at their instants, and SET_CODES on a ready link (R176, R178, R179, R181, R183). -/

namespace Sys2Proof.Machine

/-- SET_CODES with codes that pass its checks (R183). -/
theorem setCodes_restarts {hush l release m b : Byte} {mode : CodeMode} (s : State) (hmode : CodeMode.ofNum b.toNat = some mode)
    (hok : codesOk hush l.toNat release m.toNat = true) :
    setCodes [hush, l, release, m, b] s = ⟨.ok, [], restartCodes hush l.toNat release m.toNat mode s⟩ := by
  have hmode' : CodeMode.ofNum (byteAt [hush, l, release, m, b] 4) = some mode := hmode
  rw [setCodes, hmode']
  exact if_pos hok

/-- Settles O46: each effect at its own instant, and the answer of SET_CODES by the mode it carries. -/
theorem monitorSamplesAndCodes : Obligations.MonitorSamplesAndCodes := by
  refine ⟨fun dt s u hu => ⟨fun v hv => ?_, fun t ht hlo hhi => ?_, fun high hhigh => ?_, fun hover => ?_⟩,
    fun dt tag hush release l m s u hu h hok => ⟨?_, ?_⟩⟩
  · exact event_answers hu (fun s => if s.now % 1000 = 0 then takeSample (sampleOf v) s else s) (if_pos hv)
  · have hclamp : clampDie t = t := by rw [clampDie]; omega
    exact event_answers hu (fun s => if s.now % 10000 = 0 then takeDieReading (clampDie t) s else s)
      ((if_pos ht).trans (congrArg (takeDieReading · u) hclamp))
  · exact event_answers hu (codeBit high) (if_pos hhigh)
  · have heither : (u.sv.hushCode.blockOver || u.sv.releaseCode.blockOver) = true := by rw [hover, Bool.true_or]
    exact event_answers hu (fun s => if s.sv.hushCode.blockOver || s.sv.releaseCode.blockOver then endBlocks s else s) (if_pos heither)
  · exact act_answers hu h rfl rfl rfl (setCodes_restarts (b := 0) u rfl hok)
  · exact act_answers hu h rfl rfl rfl (setCodes_restarts (b := 1) u rfl hok)

end Sys2Proof.Machine
end

section
/-! SUPPORT. The supply table (R177): a table whose rows come nearer to an end settles, and the state the supply table settles in. -/

namespace Sys2Proof.Machine

/-- A table each of whose rows comes nearer to an end has come to one after as many applications. -/
theorem repeatTable_settles {α : Type} {row : α → Option α} (distance : α → Nat)
    (hnear : ∀ x y, row x = some y → distance y < distance x) :
    ∀ (fuel : Nat) (x : α), distance x ≤ fuel → row (repeatTable row fuel x) = none
  | 0, x, hx => by
    rw [repeatTable]
    cases hrow : row x with
    | none => rfl
    | some y => have := hnear x y hrow; omega
  | fuel + 1, x, hx => by
    rw [repeatTable]
    cases hrow : row x with
    | none => exact hrow
    | some y => exact repeatTable_settles distance hnear fuel y (by have := hnear x y hrow; omega)

/-- How many rows of the supply table lie at most between a state and the one that a reading calls for. -/
def supplyDistance (vwarn vuv vm : Nat) : SupplyState → Nat
  | .normal => if vwarn ≤ vm then 0 else 1
  | .low => if vm < vuv ∨ vwarn ≤ vm then 1 else 0
  | .lockout => if vm < vuv then 0 else 2

theorem supplyRow_nearer {vwarn vuv vm : Nat} (horder : vuv < vwarn) (x y : SupplyState) (h : supplyRow vwarn vuv vm x = some y) :
    supplyDistance vwarn vuv vm y < supplyDistance vwarn vuv vm x := by
  cases x with
  | normal | low | lockout =>
    simp only [supplyRow] at h
    split_ifs at h <;> cases h <;> simp only [supplyDistance] <;> split_ifs <;> omega

/-- Below Vuv every state but LOCKOUT has its row (R177). -/
theorem lockout_of_settled {vwarn vuv vm : Nat} {st : SupplyState} (h : supplyRow vwarn vuv vm st = none) (hvm : vm < vuv) :
    st = .lockout := by
  cases st with
  | lockout => rfl
  | normal | low => simp [supplyRow, hvm] at h

/-- Above both hysteresis steps every state but NORMAL has its row (R177). -/
theorem normal_of_settled {vwarn vuv vm : Nat} {st : SupplyState} (h : supplyRow vwarn vuv vm st = none) (hwarn : vwarn + 20 ≤ vm)
    (huv : vuv + 50 ≤ vm) : st = .normal := by
  have hnot : ¬ vm < vuv := by omega
  cases st with
  | normal => rfl
  | low => simp [supplyRow, hnot, hwarn] at h
  | lockout => simp [supplyRow, huv] at h

/-- Settles O47: no state is more than two rows from its end, and where no row matches the reading decides the state. -/
theorem supplyTableSettles : Obligations.SupplyTableSettles := by
  intro vwarn vuv vm st horder
  have hnear : supplyDistance vwarn vuv vm st ≤ 4 := by
    cases st with
    | normal | low | lockout => simp only [supplyDistance]; split_ifs <;> omega
  have hend := repeatTable_settles (supplyDistance vwarn vuv vm) (supplyRow_nearer horder) 4 st hnear
  exact ⟨hend, lockout_of_settled hend, normal_of_settled hend⟩

end Sys2Proof.Machine
end

section
/-! SUPPORT. A code detector over the first bits after its restart (R179, R180): what it holds after `n` of them, which of them it counts as
disagreements, and which windows it tries for a hit. -/

namespace Sys2Proof.Machine

variable {code : Byte} {len : Nat}

/-- A detector just restarted that has taken the first `n` bits of a stream. -/
def detectorAfter (code : Byte) (len : Nat) (stream : Nat → Bool) (n : Nat) : Detector :=
  ((List.range n).map stream).foldl (fun d b => d.takeBit b) (Detector.restarted code len)

/-- The `len` bits of a stream from `i` on, in the order received. -/
def window (stream : Nat → Bool) (i len : Nat) : List Bool := (List.range len).map fun j => stream (i + j)

theorem detectorAfter_succ (stream : Nat → Bool) (n : Nat) :
    detectorAfter code len stream (n + 1) = (detectorAfter code len stream n).takeBit (stream n) := by
  simp [detectorAfter, List.range_succ]

/-- The detector keeps its code, counts its bits up to 9, and holds the last of them, newest first (R179). -/
theorem detectorAfter_holds (stream : Nat → Bool) (n : Nat) :
    let d := detectorAfter code len stream n
    d.code = code ∧ d.len = len ∧ d.received = min n 9 ∧ d.bits = ((List.range n).map stream).reverse.take (len + 1) := by
  induction n with
  | zero => simp [detectorAfter, Detector.restarted]
  | succ n ih =>
    obtain ⟨hcode, hlen, hreceived, hbits⟩ := ih
    rw [detectorAfter_succ]
    refine ⟨hcode, hlen, ?_, ?_⟩
    · simp only [Detector.takeBit, hreceived]
      omega
    · simp [Detector.takeBit, hlen, hbits, List.range_succ, List.take_take]

/-- The `len` newest bits, in the order received, are the window that ends with the newest. -/
theorem detectorAfter_window (stream : Nat → Bool) {n : Nat} (h : len ≤ n) :
    ((detectorAfter code len stream n).bits.take len).reverse = window stream (n - len) len := by
  obtain ⟨-, -, -, hbits⟩ := detectorAfter_holds (code := code) (len := len) stream n
  rw [hbits, List.take_take, Nat.min_eq_left (Nat.le_succ len), List.take_reverse, List.reverse_reverse]
  refine List.ext_getElem ?_ fun i hi _ => ?_
  · simp [window]; omega
  · simp [window]

/-- The bit `len` before the newest stands at the end of what the detector holds. -/
theorem detectorAfter_oldest (stream : Nat → Bool) {n : Nat} (h : len ≤ n) :
    (detectorAfter code len stream (n + 1)).bits[len]? = some (stream (n - len)) := by
  obtain ⟨-, -, -, hbits⟩ := detectorAfter_holds (code := code) (len := len) stream (n + 1)
  have hlen : len < n + 1 := Nat.lt_succ_of_le h
  simp [hbits, hlen]

/-! ## Hits -/

theorem takeBit_hit (b : Bool) (d : Detector) : (d.takeBit b).hit =
    (d.hit || (decide (d.len ≤ (d.takeBit b).received) &&
      isRotation ((d.takeBit b).bits.take d.len).reverse (codeBits d.code d.len))) := rfl

/-- A bit that ends a full window is a hit where the window is a rotation of the code (R180). -/
theorem detectorAfter_hit (hlen : len ≤ 8) (stream : Nat → Bool) (n : Nat) :
    (detectorAfter code len stream (n + 1)).hit =
      ((detectorAfter code len stream n).hit || (decide (len ≤ n + 1) &&
        isRotation (window stream (n + 1 - len) len) (codeBits code len))) := by
  obtain ⟨hcode, hlen', -, -⟩ := detectorAfter_holds (code := code) (len := len) stream n
  obtain ⟨-, -, hreceived, -⟩ := detectorAfter_holds (code := code) (len := len) stream (n + 1)
  have hcount : len ≤ min (n + 1) 9 ↔ len ≤ n + 1 := by omega
  rw [detectorAfter_succ, takeBit_hit, ← detectorAfter_succ, hcode, hlen', hreceived, decide_eq_decide.mpr hcount]
  by_cases hfull : len ≤ n + 1
  · rw [detectorAfter_window stream hfull]
  · rw [decide_eq_false hfull, Bool.false_and, Bool.false_and]

/-! ## Disagreements -/

/-- A bit equal to the one `len` before it is no disagreement (R180). -/
theorem takeBit_agrees (b : Bool) (d : Detector) (h : d.len < (d.takeBit b).received → (d.takeBit b).bits[d.len]? = some b) :
    (d.takeBit b).disagreements = d.disagreements := by
  by_cases hcount : d.len < min (d.received + 1) 9
  · have hold : ((b :: d.bits).take (d.len + 1))[d.len]? = some b := h hcount
    simp only [Detector.takeBit, hold, bne_self_eq_false, Bool.and_false, Bool.toNat_false, Nat.add_zero]
  · simp [Detector.takeBit, hcount]

/-- A stream that repeats itself every `len` bits has none. -/
theorem detectorAfter_agrees (stream : Nat → Bool) (hperiod : ∀ i, stream (i + len) = stream i) (n : Nat) :
    (detectorAfter code len stream n).disagreements = 0 := by
  induction n with
  | zero => rfl
  | succ n ih =>
    obtain ⟨-, hlen, -, -⟩ := detectorAfter_holds (code := code) (len := len) stream n
    obtain ⟨-, -, hreceived, -⟩ := detectorAfter_holds (code := code) (len := len) stream (n + 1)
    rw [detectorAfter_succ, takeBit_agrees, ih]
    rw [← detectorAfter_succ, hlen, hreceived]
    intro hcount
    have hn : len ≤ n := by omega
    rw [detectorAfter_oldest stream hn, ← hperiod, Nat.sub_add_cancel hn]

/-! ## The two streams -/

theorem codeBits_length (code : Byte) (len : Nat) : (codeBits code len).length = len := by simp [codeBits]

/-- A code repeated from its bit `r` on. -/
def repeated (code : Byte) (len r : Nat) (i : Nat) : Bool := (codeBits code len).getD ((i + r) % len) false

/-- The first window is a rotation of the code (9.4). -/
theorem repeated_window {r : Nat} (hr : r < len) : isRotation (window (repeated code len r) 0 len) (codeBits code len) = true := by
  have hwindow : window (repeated code len r) 0 len = (codeBits code len).drop r ++ (codeBits code len).take r := by
    refine List.ext_getElem ?_ fun i hi _ => ?_
    · simp [window, codeBits_length]; omega
    · have hi' : i < len := by simpa [window] using hi
      simp only [window, repeated, List.getElem_map, List.getElem_range, Nat.zero_add, List.getElem_append, List.length_drop,
        codeBits_length, List.getElem_drop, List.getElem_take]
      split
      · next hlow =>
        have hmod : (i + r) % len = r + i := by rw [Nat.mod_eq_of_lt (by omega), Nat.add_comm]
        rw [hmod, List.getD_eq_getElem _ _ (by rw [codeBits_length]; omega)]
      · next hhigh =>
        have hmod : (i + r) % len = i - (len - r) := by
          rw [Nat.mod_eq_sub_mod (by omega), Nat.mod_eq_of_lt (by omega)]; omega
        simp only [hmod]
        rw [List.getD_eq_getElem _ _ (by rw [codeBits_length]; omega)]
  simp only [isRotation, codeBits_length, hwindow, List.any_eq_true, List.mem_range, beq_iff_eq]
  exact ⟨r, hr, rfl⟩

/-- No window of a steady line is a rotation of a code whose bits are not all equal (R183). -/
theorem steady_window {level : Bool} (hcode : allEqual (codeBits code len) = false) (i : Nat) :
    isRotation (window (fun _ => level) i len) (codeBits code len) = false := by
  refine Bool.eq_false_iff.mpr fun h => Bool.eq_false_iff.mp hcode ?_
  simp only [isRotation, List.any_eq_true, beq_iff_eq] at h
  obtain ⟨k, -, hk⟩ := h
  have hall : ∀ b ∈ codeBits code len, b = level := by
    intro b hb
    have hmem : b ∈ window (fun _ => level) i len := by
      rw [hk, List.mem_append]
      rw [← List.take_append_drop k (codeBits code len), List.mem_append] at hb
      exact hb.symm
    obtain ⟨_, _, rfl⟩ := List.mem_map.mp hmem
    rfl
  cases level with
  | true => exact Bool.or_eq_true_iff.mpr (.inl (List.all_eq_true.mpr fun b hb => by rw [hall b hb]; rfl))
  | false => exact Bool.or_eq_true_iff.mpr (.inr (List.all_eq_true.mpr fun b hb => by rw [hall b hb]; rfl))

/-- A code repeated exactly is a hit once its first window is full, and stays one. -/
theorem repeated_hits {r n : Nat} (hlen : len ≤ 8) (hr : r < len) (hn : len ≤ n) :
    (detectorAfter code len (repeated code len r) n).hit = true := by
  induction n, hn using Nat.le_induction with
  | base =>
    obtain ⟨m, rfl⟩ : ∃ m, len = m + 1 := ⟨len - 1, by omega⟩
    rw [detectorAfter_hit hlen, Nat.sub_self, repeated_window hr, decide_eq_true le_rfl, Bool.and_self, Bool.or_true]
  | succ n hn ih => rw [detectorAfter_hit hlen, ih, Bool.true_or]

theorem steady_never_hits {level : Bool} (hlen : len ≤ 8) (hcode : allEqual (codeBits code len) = false) (n : Nat) :
    (detectorAfter code len (fun _ => level) n).hit = false := by
  induction n with
  | zero => rfl
  | succ n ih => rw [detectorAfter_hit hlen, ih, steady_window hcode, Bool.and_false, Bool.or_false]

/-- Settles O48: an exact code has its hit and no disagreement, and a steady line has no hit. -/
theorem codeBlocksPassAndFail : Obligations.CodeBlocksPassAndFail := by
  intro code len r hok hr
  obtain ⟨⟨-, hlen⟩, hcode⟩ : (5 ≤ len ∧ len ≤ 8) ∧ allEqual (codeBits code len) = false := by simpa [codeOk] using hok
  refine ⟨fun bits hbits => ?_, fun level => ?_⟩
  · have hhit := repeated_hits (code := code) (n := 50) hlen hr (by omega)
    have hperiod : ∀ i, repeated code len r (i + len) = repeated code len r i := fun i => by
      simp [repeated, Nat.add_right_comm i len r]
    have hagree := detectorAfter_agrees (code := code) _ hperiod 50
    subst hbits
    change (detectorAfter code len (repeated code len r) 50).passes = true
    simp [Detector.passes, hhit, hagree]
  · have hsteady : List.replicate 50 level = (List.range 50).map fun _ => level := by simp
    have hmiss := steady_never_hits (level := level) hlen hcode 50
    rw [hsteady]
    change (detectorAfter code len (fun _ => level) 50).passes = false
    simp [Detector.passes, hmiss]

end Sys2Proof.Machine
end

section
/-! SUPPORT. What a performance that ends straight to IDLE while a halt reason stands leaves of the tower (R80, R83): no reason, no
channel, no axis and no door's drive changes, since a standing halt allows no door to travel (R159). -/

namespace Sys2Proof.Machine

variable {s t u : State}

/-- The mute reason set, the channels, the axes and the drives of the doors are as before. -/
structure TowerStands (s t : State) : Prop where
  mute : t.sv.mute = s.sv.mute
  channels : t.st.channels = s.st.channels
  axes : t.mu.axes = s.mu.axes
  doors : ∀ d : Axis, (t.door d).drive = (s.door d).drive

theorem TowerStands.refl (s : State) : TowerStands s s := ⟨rfl, rfl, rfl, fun _ => rfl⟩

/-- What leaves the set, the channels and the Motion Unit alone. -/
theorem TowerStands.beside (h : TowerStands s t) (he : (u.sv.mute, u.st.channels, u.mu) = (t.sv.mute, t.st.channels, t.mu)) :
    TowerStands s u := by
  simp only [Prod.mk.injEq] at he
  obtain ⟨hmute, hchannels, hmu⟩ := he
  exact ⟨hmute.trans h.mute, hchannels.trans h.channels, (congrArg MotionUnit.axes hmu).trans h.axes,
    fun d => by rw [State.door, hmu]; exact h.doors d⟩

theorem TowerStands.chan (h : TowerStands s t) (b : Bell) : t.chan b = s.chan b := by rw [State.chan, h.channels]; rfl

theorem TowerStands.halted (h : TowerStands s t) : t.halted = s.halted := congrArg MuteSet.halted h.mute

/-! ## Demands on the doors (R158, R159) -/

/-- An update of a door's record beside its drive. -/
theorem TowerStands.modDoor (h : TowerStands s t) (d : Axis) {f : DoorRecord → DoorRecord} (hf : ∀ r, (f r).drive = r.drive) :
    TowerStands s (t.modDoor d f) := by
  refine ⟨h.mute, h.channels, h.axes, fun x => ?_⟩
  rw [modDoor_door]
  split
  · next hx => rw [hf, hx]; exact h.doors d
  · exact h.doors x

/-- While a halt reason stands a judged door stays as it is (R159). -/
theorem judgeDoor_halted (d : Axis) (h : s.halted = true) : judgeDoor d s = s := by
  have hmay : doorMayDrive s d = false := by simp [doorMayDrive, h]
  have hstay : doorAction s d = .stay := by simp [doorAction, hmay]
  rw [judgeDoor, hstay]

theorem syncMembers_stands (d : Axis) (h : TowerStands s t) : TowerStands s (syncMembers d t) := by
  unfold syncMembers
  exact ite_kept (h.modDoor d fun _ => rfl) (h.modDoor d fun _ => rfl)

/-! ## The Schedule Unit -/

theorem postRequest_stands (r : ShowRequest) (h : TowerStands s t) : TowerStands s (postRequest r t) := by
  obtain ⟨-, he⟩ | ⟨q, -, he⟩ | he := postRequest_cases r t <;> rw [he] <;> exact h.beside rfl

theorem judgeTrigger_stands (k : Nat) (old : Bool) (h : TowerStands s t) : TowerStands s (judgeTrigger k old t) := by
  unfold judgeTrigger
  split
  · exact h
  · refine ite_kept (h.beside rfl) ?_
    split
    · exact h.beside rfl
    · exact ite_kept (h.beside rfl) (ite_kept (h.beside rfl) (postRequest_stands _ h))

theorem setRecord_stands (r : TriggerRecord) (h : TowerStands s t) : TowerStands s (setRecord r t) := h.beside rfl

theorem skipPassed_stands (c : Option Nat) : ∀ (n k : Nat) {t : State}, TowerStands s t → TowerStands s (skipPassed c n k t)
  | 0, _, _, h => h
  | n + 1, k, _, h => skipPassed_stands c n (k + 1) (ite_kept h (h.beside rfl))

theorem catchUp_stands (before after : Nat) (h : TowerStands s t) : TowerStands s (catchUp before after t) := by
  have hs := fun c n k => skipPassed_stands c n k h
  unfold catchUp
  refine ite_kept h ?_
  dsimp only
  split
  · exact setRecord_stands _ (hs _ _ _)
  · exact setRecord_stands _ (judgeTrigger_stands _ _ (hs _ _ _))

theorem stepBack_stands (after : Nat) (h : TowerStands s t) : TowerStands s (stepBack after t) := by
  unfold stepBack
  split
  · exact h
  · exact ite_kept (setRecord_stands _ h) h

theorem scheduleStep_stands (before after : Nat) (wasSet : Bool) (src : StepSource) (h : TowerStands s t) :
    TowerStands s (scheduleStep before after wasSet src t) := by
  have he : TowerStands s (evaluateSeason t) := h.beside rfl
  unfold scheduleStep
  dsimp only
  split
  · exact ite_kept (catchUp_stands _ _ he) (ite_kept (stepBack_stands _ he) he)
  · split
    · exact setRecord_stands _ he
    · exact he

theorem applyPending_stands (h : TowerStands s t) : TowerStands s (applyPending t) := by
  unfold applyPending
  split
  · exact h
  · exact scheduleStep_stands _ _ _ _ (h.beside rfl)

/-! ## Prefetch (R72) -/

theorem requestReadsFor_stands : ∀ (fuel : Nat) {t : State}, TowerStands s t → TowerStands s (requestReadsFor fuel t)
  | 0, _, h => h
  | fuel + 1, t, h => by
    unfold requestReadsFor
    split
    · exact h
    · exact requestReadsFor_stands fuel (h.beside rfl)

theorem requestReads_stands (h : TowerStands s t) : TowerStands s (requestReads t) := (requestReadsFor_stands 16 h).beside rfl

/-! ## The records of a performance that ends (R84, R130) -/

theorem writeLog_stands (h : TowerStands s t) : TowerStands s (writeLog t) := by
  unfold writeLog
  split
  · exact h
  · exact h.beside rfl

theorem autoTransfer_stands (h : TowerStands s t) : TowerStands s (autoTransfer t) := ite_kept (h.beside rfl) h

/-! ## Under a halt -/

section
variable (hs : s.halted = true)
include hs

theorem demandDoors_stands (set : AxisSet) {f : DoorRecord → DoorRecord} (hf : ∀ r, (f r).drive = r.drive) (h : TowerStands s t) :
    TowerStands s (demandDoors set f t) := by
  refine demandDoors_keeps (P := TowerStands s) (fun d t h => ?_) h
  have hdemand := (syncMembers_stands d h).modDoor d hf
  rwa [judgeDoor_halted d (hdemand.halted.trans hs)]

theorem takeRequest_stands (r : ShowRequest) (e : DirEntry) (h : TowerStands s t) : TowerStands s (takeRequest r e t) :=
  demandDoors_stands hs _ (fun _ => rfl) (requestReads_stands (h.beside rfl))

theorem examineHeads_stands : ∀ (l : List ShowRequest) {t : State}, TowerStands s t → TowerStands s (examineHeads l t)
  | [], _, h => h.beside rfl
  | r :: rest, t, h => by
    unfold examineHeads
    refine ite_kept (examineHeads_stands rest (h.beside rfl)) ?_
    split
    · exact examineHeads_stands rest (h.beside rfl)
    · exact ite_kept (examineHeads_stands rest (h.beside rfl)) (ite_kept (h.beside rfl) (takeRequest_stands hs _ _ (h.beside rfl)))

theorem examineQueue_stands (h : TowerStands s t) : TowerStands s (examineQueue t) := ite_kept (examineHeads_stands hs _ h) h

theorem enterIdle_stands (h : TowerStands s t) : TowerStands s (enterIdle t) := by
  have hlog := fun f => writeLog_stands (t := modPerf f t) (h.beside rfl)
  have htransfer := fun f => autoTransfer_stands (t := raise .showEnded (writeLog (modPerf f t))) ((hlog f).beside rfl)
  unfold enterIdle
  exact examineQueue_stands hs (applyPending_stands ((htransfer _).beside rfl))

theorem abortToIdle_stands (r : PerfResult) (owe : Bool) : TowerStands s (abortToIdle r owe s) := by
  have hdemand := demandDoors_stands (t := modPerf (·.setResult r) s) hs (BitVec.allOnes 8) (f := DoorRecord.withdrawPe) (fun _ => rfl)
    ((TowerStands.refl s).beside rfl)
  exact enterIdle_stands hs (hdemand.beside rfl)

end

end Sys2Proof.Machine
end

section
/-! SUPPORT. The motors over a halt (R152, R163, R174): none is driven once it is carried out, and none while it stands. -/

namespace Sys2Proof.Machine

variable {s t : State}

/-- No axis and no door is driven. -/
structure MotorsOff (s : State) : Prop where
  axes : ∀ a : Axis, (s.axis a).drive = none
  doors : ∀ d : Axis, (s.door d).drive = none

theorem MotorsOff.axisGate (h : MotorsOff s) (a : Axis) (dir : Direction) : axisGate s a dir = false := by
  rw [Machine.axisGate, h.axes, h.doors]
  rfl

theorem MotorsOff.same (h : MotorsOff s) (hmu : t.mu = s.mu) : MotorsOff t :=
  ⟨fun a => by rw [State.axis, hmu]; exact h.axes a, fun d => by rw [State.door, hmu]; exact h.doors d⟩

theorem TowerStands.motorsOff (h : TowerStands s t) (hs : MotorsOff s) : MotorsOff t :=
  ⟨fun a => by rw [State.axis, h.axes]; exact hs.axes a, fun d => (h.doors d).trans (hs.doors d)⟩

/-- While a halt reason stands no motor is driven (R174). -/
theorem MotionSafe.motorsOff (h : MotionSafe s) (hs : s.halted = true) : MotorsOff s := by
  obtain ⟨haxes, hdoors⟩ := h.still (.inl hs)
  refine ⟨fun a => ?_, fun d => ?_⟩
  · exact Option.not_isSome_iff_eq_none.mp fun hd => Bool.eq_false_iff.mp (haxes a).1 (h.axisDrive a hd)
  · exact Option.not_isSome_iff_eq_none.mp fun hd => Bool.eq_false_iff.mp (hdoors d) (h.doorDrive d hd)

/-! ## Axes (R152) -/

theorem mem_allAxes : ∀ a : Axis, a ∈ allAxes := by decide

/-- A halt leaves an axis undriven, where its drive agrees with its state. -/
theorem AxisRecord.halt_drive {r : AxisRecord} (h : r.drive.isSome = true → r.state.drives = true) : r.halt.drive = none := by
  unfold AxisRecord.halt
  cases hstate : r.state with
  | moving | homing => rfl
  | unreferenced | idle | dwelling | waitDoor | faultOff | lockedOut =>
    rw [hstate] at h
    exact Option.not_isSome_iff_eq_none.mp fun hd => Bool.false_ne_true (h hd)

theorem AxisRecord.guardLost_drive {r : AxisRecord} (h : r.drive = none) : r.guardLost.drive = none := by
  unfold AxisRecord.guardLost
  cases r.state with
  | moving | homing => rfl
  | unreferenced | idle | dwelling | faultOff | lockedOut => exact h
  | waitDoor =>
    dsimp only
    split
    · exact h
    · exact h

theorem haltAxes_axis (a : Axis) (s : State) :
    (forEach (fun a s => s.modAxis a (·.halt)) allAxes s).axis a = (s.axis a).halt := by
  rw [forEach_modAxis AxisRecord.halt a allAxes s (by decide), if_pos (mem_allAxes a)]

/-! ## Doors (R163) -/

/-- What the fault of its guard door does to an axis drives none (R165). -/
theorem guardLost_axes (d : Axis) (h : ∀ a : Axis, (s.axis a).drive = none) :
    ∀ a, ((forGuarded d (fun a s => s.modAxis a (·.guardLost)) s).axis a).drive = none := by
  refine forGuarded_keeps (P := fun t => ∀ a, (t.axis a).drive = none) (f := fun a s => s.modAxis a (·.guardLost))
    (fun x t _ ht a => ?_) h
  rw [modAxis_axis]
  split
  · exact AxisRecord.guardLost_drive (ht x)
  · exact ht a

theorem doorFault_axes (k : DoorFaultKind) (trip : Option Nat) (d : Axis) (h : ∀ a : Axis, (s.axis a).drive = none) (a : Axis) :
    ((doorFault k trip d s).axis a).drive = none := guardLost_axes (s := s.modDoor d _) d h a

theorem forGuarded_axes_door (d x : Axis) (f : AxisRecord → AxisRecord) (s : State) :
    (forGuarded d (fun a s => s.modAxis a f) s).door x = s.door x :=
  forGuarded_keeps (P := fun t => t.door x = s.door x) (f := fun a s => s.modAxis a f) (fun _ _ _ ht => ht) rfl

/-- A fault is no matter of the other doors, and leaves its own undriven. -/
theorem doorFault_door (k : DoorFaultKind) (trip : Option Nat) (d : Axis) (s : State) :
    ((doorFault k trip d s).door d).state = .fault ∧ ((doorFault k trip d s).door d).drive = none ∧
      ∀ x : Axis, x ≠ d → (doorFault k trip d s).door x = s.door x := by
  have hdoor := fun x f => forGuarded_axes_door d x AxisRecord.guardLost (s.modDoor d f)
  refine ⟨?_, ?_, fun x hx => (hdoor x _).trans (modDoor_door_ne hx _ s)⟩
  · exact congrArg DoorRecord.state ((hdoor d _).trans (modDoor_door_self d _ s))
  · exact congrArg DoorRecord.drive ((hdoor d _).trans (modDoor_door_self d _ s))

/-- A halt faults a door that travels, to be released when the halt ends, and leaves any other (R163). -/
theorem haltDoor_eq (d : Axis) (s : State) : haltDoor d s =
    if (s.door d).state.travels then (doorFault .halt none d s).modDoor d fun r => { r with release := true } else s := by
  unfold haltDoor
  cases (s.door d).state <;> rfl

/-- Everything a halt can do to a door: one that travels faults, with its motor off, and any other door stays as it is (R163). -/
theorem haltDoor_cases (d : Axis) (s : State) :
    ((haltDoor d s).door d).state.travels = false ∧
      (((haltDoor d s).door d).drive = none ∨ haltDoor d s = s) ∧ ∀ x : Axis, x ≠ d → (haltDoor d s).door x = s.door x := by
  obtain ⟨hstate, hdrive, hothers⟩ := doorFault_door .halt none d s
  rw [haltDoor_eq]
  split
  · refine ⟨?_, .inl ?_, fun x hx => ?_⟩
    · rw [modDoor_door_self]; exact congrArg DoorState.travels hstate
    · rw [modDoor_door_self]; exact hdrive
    · rw [modDoor_door_ne hx]; exact hothers x hx
  · next hstands => exact ⟨Bool.eq_false_iff.mpr hstands, .inr rfl, fun _ _ => rfl⟩

theorem haltDoor_axes (d : Axis) (h : ∀ a : Axis, (s.axis a).drive = none) (a : Axis) : ((haltDoor d s).axis a).drive = none := by
  rw [haltDoor_eq]
  split
  · exact doorFault_axes .halt none d h a
  · exact h a

/-! ## The halt (R174) -/

/-- A door's motor runs only while the door travels. -/
def DoorRecord.Agrees (r : DoorRecord) : Prop := r.drive.isSome = true → r.state.travels = true

theorem DoorRecord.Agrees.undriven {r : DoorRecord} (h : r.Agrees) (hstand : r.state.travels = false) : r.drive = none :=
  Option.not_isSome_iff_eq_none.mp fun hd => Bool.eq_false_iff.mp hstand (h hd)

theorem haltDoor_agrees (x : Axis) (h : ∀ d : Axis, (s.door d).Agrees) (d : Axis) : ((haltDoor x s).door d).Agrees := by
  obtain ⟨-, hself, hothers⟩ := haltDoor_cases x s
  obtain rfl | hne := eq_or_ne d x
  · rcases hself with hnone | hsame
    · exact fun hd => by rw [hnone] at hd; cases hd
    · rw [hsame]; exact h d
  · rw [hothers d hne]; exact h d

theorem haltDoor_keeps_standing (x d : Axis) (h : (s.door d).state.travels = false) : ((haltDoor x s).door d).state.travels = false := by
  obtain ⟨hself, -, hothers⟩ := haltDoor_cases x s
  obtain rfl | hne := eq_or_ne d x
  · exact hself
  · rw [hothers d hne]; exact h

/-- The halt of the doors leaves none driven. -/
theorem haltDoors_drive (h : ∀ d : Axis, (s.door d).Agrees) (d : Axis) : ((forEach haltDoor allAxes s).door d).drive = none := by
  have hagree := forEach_keeps (P := fun t => ∀ d, (t.door d).Agrees) (f := haltDoor) (fun x _ => haltDoor_agrees x) allAxes s h
  have hstand := forEach_reaches (Q := fun d t => (t.door d).state.travels = false) (fun d t => (haltDoor_cases d t).1)
    (fun x y _ => haltDoor_keeps_standing x y) (mem_allAxes d) s
  exact (hagree d).undriven hstand

theorem haltDampers_mu (s : State) : (forEach haltDamper allBells s).mu = s.mu :=
  forEach_keeps (P := fun t => t.mu = s.mu) (f := haltDamper) (fun _ _ ht => ht) allBells s rfl

/-- A halt leaves no motor driven. -/
theorem haltTower_motorsOff (haxes : ∀ a : Axis, (s.axis a).drive.isSome = true → (s.axis a).state.drives = true)
    (hdoors : ∀ d : Axis, (s.door d).Agrees) : MotorsOff (haltTower s) := by
  have hdampers := haltDampers_mu s
  rw [haltTower]
  generalize forEach haltDamper allBells s = u at hdampers
  have haxis : ∀ a, u.axis a = s.axis a := fun a => by rw [State.axis, hdampers]; rfl
  have hdoor : ∀ d, (forEach (fun a s => s.modAxis a (·.halt)) allAxes u).door d = s.door d := fun d =>
    forEach_keeps (P := fun t => t.door d = s.door d) (f := fun a s => s.modAxis a (·.halt)) (fun _ _ ht => ht) allAxes u
      (by rw [State.door, hdampers]; rfl)
  refine ⟨forEach_keeps (P := fun t => ∀ a, (t.axis a).drive = none) (f := haltDoor) (fun d _ => haltDoor_axes d) allAxes _ fun a => ?_,
    haltDoors_drive fun d => ?_⟩
  · rw [haltAxes_axis, haxis]
    exact AxisRecord.halt_drive (haxes a)
  · rw [hdoor]
    exact hdoors d

end Sys2Proof.Machine
end

section
/-! SUPPORT. The pulses over a halt (R101, R117, R174): what the flush, the end of a pulse as HALT, and the rest of a halt make of each
channel's pulse, its recovery and its fault count. -/

namespace Sys2Proof.Machine

variable {s t u : State}

/-! ## What stands of a pulse -/

/-- A channel's pulse, its recovery, and what is kept for its retries. -/
structure PulseRecord where
  state : ChannelState
  pulseEnd : Nat
  admitted : Nat
  recoveryEnd : Option Nat
  faultCount : Nat
  trial : Bool

def Channel.pulseRecord (c : Channel) : PulseRecord := ⟨c.state, c.pulseEnd, c.admitted, c.recoveryEnd, c.faultCount, c.trial⟩

theorem state_of_pulseRecord {c d : Channel} (h : c.pulseRecord = d.pulseRecord) : c.state = d.state := congrArg PulseRecord.state h

/-- A pulse that a halt cuts gives its current back, and its channel recovers (R101, R117). -/
def PulseRecord.cut (recoveryEnd : Nat) (p : PulseRecord) : PulseRecord :=
  { p with state := .recovery, admitted := 0, recoveryEnd := some recoveryEnd }

/-- The energized-current sum and every pulse are as before. -/
structure SamePulses (s t : State) : Prop where
  sum : t.st.sum = s.st.sum
  pulse : ∀ b : Bell, (t.chan b).pulseRecord = (s.chan b).pulseRecord

theorem SamePulses.refl (s : State) : SamePulses s s := ⟨rfl, fun _ => rfl⟩

theorem SamePulses.trans (h : SamePulses s t) (g : SamePulses t u) : SamePulses s u :=
  ⟨g.sum.trans h.sum, fun b => (g.pulse b).trans (h.pulse b)⟩

theorem SamePulses.beside (h : SamePulses s t) (hst : u.st = t.st) : SamePulses s u :=
  h.trans ⟨by rw [hst], fun b => by rw [State.chan, hst]; rfl⟩

theorem modChan_samePulses (b : Bell) {f : Channel → Channel} (hf : ∀ c, (f c).pulseRecord = c.pulseRecord) (h : SamePulses s t) :
    SamePulses s (t.modChan b f) :=
  h.trans ⟨rfl, modChan_each (R := fun c d => d.pulseRecord = c.pulseRecord) (fun _ => rfl) b (hf _)⟩

/-- An update of the Strike Unit's queue and tallies. -/
theorem modSt_samePulses {f : StrikeUnit → StrikeUnit} (hsum : (f t.st).sum = t.st.sum) (hchannels : (f t.st).channels = t.st.channels)
    (h : SamePulses s t) : SamePulses s (t.modSt f) :=
  h.trans ⟨hsum, fun b => by rw [State.chan, modSt_st, hchannels]; rfl⟩

/-! ## Reports and drops -/

theorem reportOrigin_samePulses (q : StrikeRequest) (f : Performance → Performance) (r : Option BellResult) (h : SamePulses s t) :
    SamePulses s (reportOrigin q f r t) := by
  obtain ⟨g, hg⟩ := reportOrigin_cases q f r t
  exact h.beside (by rw [hg]; rfl)

theorem raise_samePulses (k : Kind) (h : SamePulses s t) : SamePulses s (raise k t) := h.beside rfl

theorem qualityDrop_samePulses (r : DropReason) (h : SamePulses s t) : SamePulses s (qualityDrop r t) := by
  refine ite_kept ?_ h
  unfold qualityCount
  dsimp only
  exact ite_kept (raise_samePulses _ (modSt_samePulses rfl rfl h)) (modSt_samePulses rfl rfl h)

theorem dropStrike_samePulses (r : DropReason) (g : Option Stages) (q : StrikeRequest) (h : SamePulses s t) :
    SamePulses s (dropStrike r g q t) := by
  unfold dropStrike
  exact reportOrigin_samePulses q _ _ (qualityDrop_samePulses r (modSt_samePulses rfl rfl (modChan_samePulses q.bell (fun _ => rfl) h)))

/-- The flush for the first reason touches no pulse (R93, R173). -/
theorem firstReason_samePulses (s : State) : SamePulses s (firstReason s) := by
  have hdrops : SamePulses s (forEach (dropStrike .muted none) s.st.queue s) :=
    forEach_keeps (P := SamePulses s) (fun q _ => dropStrike_samePulses _ _ q) _ s (.refl s)
  have hflush : SamePulses s (flushStrikes s) := modSt_samePulses (f := fun u => { u with queue := [] }) rfl rfl hdrops
  unfold firstReason stopSelfTest
  exact ite_kept (hflush.beside rfl) hflush

theorem flushedFor_samePulses (r : MuteReason) (s : State) : SamePulses s (flushedFor r s) := by
  have hset : SamePulses s (setReason r true s) := (SamePulses.refl s).beside rfl
  exact ite_kept hset (hset.trans (firstReason_samePulses _))

/-! ## The end of a pulse as HALT (R101, R117) -/

/-- A cut is a release and records. -/
theorem cutPulse_samePulses (b : Bell) (k : PulseEndKind) (s : State) : SamePulses (releaseCoil b k s) (cutPulse b k s) := by
  have hrecord : SamePulses (releaseCoil b k s) ((releaseCoil b k s).modChan b fun c =>
      { (if c.verification = .none then c else c.setVerify .notVerified) with verification := .none, strike := none }) :=
    modChan_samePulses b (fun c => by split <;> rfl) (.refl _)
  unfold cutPulse
  dsimp only
  split
  · exact hrecord
  · exact reportOrigin_samePulses _ _ _ hrecord

/-- When a recovery that begins at the present instant ends (R101). -/
def recoveryFrom (b : Bell) (s : State) : Nat := s.now + (s.bellProfile b).trec * 1000

theorem recoveryFrom_congr (b : Bell) (htb : t.tb = s.tb) (hlu : t.lu = s.lu) : recoveryFrom b t = recoveryFrom b s := by
  simp only [recoveryFrom, State.bellProfile, State.now, htb, hlu]

theorem cutByHalt_pulse_self (b : Bell) (s : State) : ((enterRecovery b (cutPulse b .halt s)).chan b).pulseRecord =
    (s.chan b).pulseRecord.cut (recoveryFrom b (cutPulse b .halt s)) := by
  have hcut := (cutPulse_samePulses b .halt s).pulse b
  rw [releaseCoil_chan, modChan_chan_self] at hcut
  rw [enterRecovery, modChan_chan_self]
  exact congrArg (fun p : PulseRecord => { p with state := .recovery, recoveryEnd := some (recoveryFrom b (cutPulse b .halt s)) }) hcut

theorem cutByHalt_pulse_ne {b c : Bell} (hc : c ≠ b) (s : State) :
    ((enterRecovery b (cutPulse b .halt s)).chan c).pulseRecord = (s.chan c).pulseRecord := by
  have hcut := (cutPulse_samePulses b .halt s).pulse c
  rw [releaseCoil_chan, modChan_chan_ne hc] at hcut
  rw [enterRecovery, modChan_chan_ne hc]
  exact hcut

theorem haltPulses_leaves (cut : Bool) {b : Bell} (h : (s.chan b).state ≠ .pulse) :
    ((haltPulses cut s).chan b).pulseRecord = (s.chan b).pulseRecord := by
  refine haltPulses_keeps (P := fun t => (t.chan b).pulseRecord = (s.chan b).pulseRecord) (fun x t hx ht => ?_) cut rfl
  have hne : b ≠ x := fun he => h ((state_of_pulseRecord ht).symm.trans (he ▸ hx))
  exact (cutByHalt_pulse_ne hne t).trans ht

theorem haltPulses_onlyStrikes (cut : Bool) (s : State) : OnlyStrikes s (haltPulses cut s) :=
  forEach_onlyStrikes (fun b _ => haltPulse_onlyStrikes cut b) allBells (.refl s)

/-- Since `s` only strikes have changed, and the pulse of bell `b` stands or has ended as HALT. -/
structure CutSince (s : State) (b : Bell) (t : State) : Prop where
  strikes : OnlyStrikes s t
  record : (t.chan b).pulseRecord = (s.chan b).pulseRecord ∨ (t.chan b).pulseRecord = (s.chan b).pulseRecord.cut (recoveryFrom b s)

theorem CutSince.cutByHalt {b : Bell} (h : CutSince s b t) (x : Bell) : CutSince s b (enterRecovery x (cutPulse x .halt t)) := by
  have hcut := cutPulse_onlyStrikes x .halt h.strikes
  refine ⟨enterRecovery_onlyStrikes x hcut, ?_⟩
  obtain rfl | hne := eq_or_ne b x
  · right
    rw [cutByHalt_pulse_self, recoveryFrom_congr (s := s) b hcut.tb hcut.lu]
    rcases h.record with hrecord | hrecord <;> rw [hrecord]
    rfl
  · rw [cutByHalt_pulse_ne hne]
    exact h.record

/-- A halt that cuts puts each pulse's channel into RECOVERY, and nothing else of the halt touches that channel. -/
theorem haltPulses_cut {b : Bell} (h : (s.chan b).state = .pulse) :
    ((haltPulses true s).chan b).pulseRecord = (s.chan b).pulseRecord.cut (recoveryFrom b s) := by
  have hcut : CutSince s b (haltPulses true s) :=
    haltPulses_keeps (P := CutSince s b) (fun x _ _ ht => ht.cutByHalt x) true ⟨.refl s, .inl rfl⟩
  rcases hcut.record with hrecord | hrecord
  · exact absurd ((state_of_pulseRecord hrecord).trans h) (haltPulses_cuts s b)
  · exact hrecord

/-! ## The rest of a halt (R125, R174) -/

theorem haltTower_samePulses (s : State) : SamePulses s (haltTower s) := by
  have hdampers : SamePulses s (forEach haltDamper allBells s) :=
    forEach_keeps (P := SamePulses s) (f := haltDamper) (fun b _ => modChan_samePulses b fun _ => rfl) allBells s (.refl s)
  exact hdampers.beside (haltTower_onlyMotion s).st

theorem haltTower_sv (s : State) : (haltTower s).sv = s.sv :=
  (haltTower_onlyMotion s).sv.trans (forEach_onlyStrikes (f := haltDamper) (fun b _ => haltDamper_onlyStrikes b) allBells (.refl s)).sv

end Sys2Proof.Machine
end

section
/-! SUPPORT. The mute reason set and what its halt reasons do (R80, R172, R174, R177): the set as a set, and the tower once a reason is in
it. -/

namespace Sys2Proof.Machine

variable {s t : State}

/-! ## The set (R172) -/

theorem MuteSet.put_self {r : MuteReason} {v : Bool} {m : MuteSet} (h : m.has r = v) : m.put r v = m := by
  subst h
  cases r <;> rfl

theorem MuteSet.halted_of_has {r : MuteReason} {m : MuteSet} (hr : r.isHalt = true) (h : m.has r = true) : m.halted = true := by
  cases r with
  | supply => exact m.halted_iff.mpr (.inl (.inl h))
  | service => exact m.halted_iff.mpr (.inl (.inr h))
  | thermal => exact m.halted_iff.mpr (.inr h)
  | operator | hush => cases hr

theorem isHalt_iff (r : MuteReason) : r.isHalt = true ↔ r = .supply ∨ r = .service ∨ r = .thermal := by
  cases r <;> decide

/-- The first halt reason is not a member yet. -/
theorem has_of_unhalted {r : MuteReason} (hr : r.isHalt = true) (hs : s.halted = false) : s.sv.mute.has r = false :=
  Bool.eq_false_iff.mpr fun h => Bool.eq_false_iff.mp hs (MuteSet.halted_of_has hr h)

theorem setReason_has (r : MuteReason) (v : Bool) (s : State) : (setReason r v s).sv.mute.has r = v := by
  rw [setReason, modSv_sv, MuteSet.has_put, if_pos rfl]

/-! ## The addition of a reason, before the engine's part (R173, R174) -/

/-- The Time Base, the Library Unit, the Motion Unit and the Supervision Unit are as before. -/
structure CutFrame (s t : State) : Prop where
  tb : t.tb = s.tb
  lu : t.lu = s.lu
  mu : t.mu = s.mu
  sv : t.sv = s.sv

theorem OnlyStrikes.cutFrame (h : OnlyStrikes s t) : CutFrame s t := ⟨h.tb, h.lu, h.mu, h.sv⟩

theorem CutFrame.trans {u : State} (h : CutFrame s t) (g : CutFrame t u) : CutFrame s u :=
  ⟨g.tb.trans h.tb, g.lu.trans h.lu, g.mu.trans h.mu, g.sv.trans h.sv⟩

theorem flushedFor_cutFrame (r : MuteReason) (s : State) : CutFrame (setReason r true s) (flushedFor r s) := by
  have hflush : CutFrame (setReason r true s) (flushStrikes (setReason r true s)) := (flushStrikes_onlyStrikes (.refl _)).cutFrame
  have hstop : CutFrame (setReason r true s) (firstReason (setReason r true s)) := by
    unfold firstReason stopSelfTest
    exact ite_kept (hflush.trans ⟨rfl, rfl, rfl, rfl⟩) hflush
  exact ite_kept ⟨rfl, rfl, rfl, rfl⟩ hstop

/-- A flush and a cut leave the axes and the doors to the rest of the halt. -/
theorem cutFor_cutFrame (first : Bool) (r : MuteReason) (s : State) : CutFrame (setReason r true s) (cutFor first r s) := by
  have hflushed := flushedFor_cutFrame r s
  exact ite_kept (hflushed.trans (haltPulses_onlyStrikes _ _).cutFrame) hflushed

theorem reasonAdded_sv (first : Bool) (r : MuteReason) (s : State) : (reasonAdded first r s).sv = (setReason r true s).sv := by
  have hcut := (cutFor_cutFrame first r s).sv
  unfold reasonAdded
  split
  · exact (haltTower_sv _).trans hcut
  · exact hcut

theorem reasonAdded_halted (first : Bool) {r : MuteReason} (hr : r.isHalt = true) (s : State) : (reasonAdded first r s).halted = true := by
  rw [State.halted, reasonAdded_sv]
  exact MuteSet.halted_of_has hr (setReason_has r true s)

theorem afterCut_samePulses (first : Bool) (r : MuteReason) (s : State) : SamePulses (cutFor first r s) (reasonAdded first r s) :=
  ite_kept (haltTower_samePulses _) (.refl _)

/-- A halt that cuts puts the channel of each pulse into RECOVERY, with its count and its trial flag kept (R101, R117). -/
theorem reasonAdded_cut {first : Bool} {r : MuteReason} {b : Bell} (hr : r.isHalt = true) (hcut : haltCuts first s = true)
    (hb : (s.chan b).state = .pulse) :
    ((reasonAdded first r s).chan b).pulseRecord = (s.chan b).pulseRecord.cut (recoveryFrom b s) := by
  have hflushed := (flushedFor_samePulses r s).pulse b
  have hframe := flushedFor_cutFrame r s
  rw [(afterCut_samePulses first r s).pulse b, cutFor, if_pos hr, hcut, haltPulses_cut ((state_of_pulseRecord hflushed).trans hb), hflushed,
    recoveryFrom_congr (s := s) b hframe.tb hframe.lu]

/-- A reason leaves a channel that is not in PULSE, and one that does not cut leaves every channel and the sum (R110, R174). -/
theorem reasonAdded_leaves (first : Bool) (r : MuteReason) {b : Bell} (hb : (s.chan b).state ≠ .pulse) :
    ((reasonAdded first r s).chan b).pulseRecord = (s.chan b).pulseRecord := by
  have hflushed := (flushedFor_samePulses r s).pulse b
  rw [(afterCut_samePulses first r s).pulse b, ← hflushed]
  unfold cutFor
  split
  · exact haltPulses_leaves _ fun h => hb ((state_of_pulseRecord hflushed).symm.trans h)
  · rfl

theorem reasonAdded_samePulses {first : Bool} (r : MuteReason) (hcut : haltCuts first s = false) :
    SamePulses s (reasonAdded first r s) := by
  refine ((flushedFor_samePulses r s).trans ?_).trans (afterCut_samePulses first r s)
  rw [cutFor, hcut, haltPulses_false, ite_self]
  exact .refl _

/-- Once a halt reason is in the set, no motor is driven. -/
theorem reasonAdded_motorsOff (first : Bool) {r : MuteReason} (hr : r.isHalt = true) (h : MotionSafe s) :
    MotorsOff (reasonAdded first r s) := by
  have hmu : (cutFor first r s).mu = s.mu := (cutFor_cutFrame first r s).mu
  have hnew : (setReason r true s).halted = true := MuteSet.halted_of_has hr (setReason_has r true s)
  cases hs : s.halted with
  | true =>
    have hold : reasonAdded first r s = cutFor first r s := by rw [reasonAdded, hs, Bool.not_true, Bool.and_false]; rfl
    rw [hold]
    exact (h.motorsOff hs).same hmu
  | false =>
    rw [reasonAdded, hnew, hs]
    refine haltTower_motorsOff (fun a => ?_) fun d => ?_
    · rw [State.axis, hmu]; exact h.axisDrive a
    · rw [State.door, hmu]; exact h.doorDrive d

/-- Once a halt reason is in the set, no damper is energized. -/
theorem reasonAdded_dampersOff (first : Bool) {r : MuteReason} (hr : r.isHalt = true) (h : StrikeSafe s) (b : Bell) :
    ((reasonAdded first r s).chan b).dampEnd = none := by
  cases hs : s.halted with
  | true => exact (reasonAdded_calmer first r s).damper b (h.damped hs b)
  | false => exact reasonAdded_dampers first (MuteSet.halted_of_has hr (setReason_has r true s)) hs b

/-! ## The engine's part (R80) -/

/-- The engine's part leaves the tower as it stands; where THERMAL ends a performance, THERMAL is in the set. -/
theorem reasonToEngine_stands {r : MuteReason} (h : r = .thermal → s.halted = true) : TowerStands s (reasonToEngine r s) := by
  unfold reasonToEngine
  cases r with
  | supply =>
    dsimp only
    split <;> exact (TowerStands.refl s).beside rfl
  | thermal => exact ite_kept (abortToIdle_stands (h rfl) _ _) (.refl s)
  | operator | hush | service => exact .refl s

/-- SUPPLY starts no more than its timer. -/
theorem reasonToEngine_supply (s : State) : (reasonToEngine .supply s).st = s.st ∧ (reasonToEngine .supply s).sv = s.sv := by
  unfold reasonToEngine
  dsimp only
  split <;> exact ⟨rfl, rfl⟩

theorem addReasonWith_member {r : MuteReason} (first : Bool) (h : s.sv.mute.has r = true) : addReasonWith first r s = s := by
  rw [addReasonWith_eq, if_pos h]

theorem addReasonWith_new {r : MuteReason} (first : Bool) (h : s.sv.mute.has r = false) :
    addReasonWith first r s = reasonToEngine r (reasonAdded first r s) := by
  rw [addReasonWith_eq, h]
  rfl

theorem addReasonWith_stands {r : MuteReason} (first : Bool) (h : s.sv.mute.has r = false) :
    TowerStands (reasonAdded first r s) (addReasonWith first r s) := by
  rw [addReasonWith_new first h]
  refine reasonToEngine_stands fun hr => reasonAdded_halted first ?_ s
  rw [hr]
  rfl

/-- The set holds the reason, and of the others those it held. -/
theorem addReasonWith_mute (first : Bool) (r : MuteReason) (s : State) : (addReasonWith first r s).sv.mute = s.sv.mute.put r true := by
  cases h : s.sv.mute.has r with
  | true => rw [addReasonWith_member first h, MuteSet.put_self h]
  | false => rw [(addReasonWith_stands first h).mute, reasonAdded_sv]; rfl

theorem removeReason_sv (r : MuteReason) (s : State) : (removeReason r s).sv = (setReason r false s).sv := by
  cases r <;> rfl

/-- A halt reason that is added leaves no damper and no motor energized. -/
theorem addReasonWith_dampersAndMotorsOff (first : Bool) {r : MuteReason} (hr : r.isHalt = true) (hm : MotionSafe s) (hst : StrikeSafe s) :
    DampersAndMotorsOff (addReasonWith first r s) := by
  cases h : s.sv.mute.has r with
  | true =>
    have hs : s.halted = true := MuteSet.halted_of_has hr h
    rw [addReasonWith_member first h]
    exact ⟨fun b => by rw [damperOut, hst.damped hs b]; rfl, (hm.motorsOff hs).axisGate⟩
  | false =>
    have hstands := addReasonWith_stands first h
    refine ⟨fun b => ?_, (hstands.motorsOff (reasonAdded_motorsOff first hr hm)).axisGate⟩
    rw [damperOut, hstands.chan, reasonAdded_dampersOff first hr hst b]
    rfl

/-! ## A walk that ends NONE (R110, R177) -/

theorem showSupply_motionSafe (st : SupplyState) (h : MotionSafe s) : MotionSafe (showSupply st s) :=
  ⟨h.axisDrive, h.doorDrive, h.still, h.walkLocked, h.interlock, h.leaders, h.validated⟩

theorem showSupply_strikeSafe (st : SupplyState) (h : StrikeSafe s) : StrikeSafe (showSupply st s) :=
  ⟨h.cut, h.damped, h.muted, h.bound, h.order⟩

theorem lockOutSupply_again (h : s.sv.mute.supply = true) : lockOutSupply s = showSupply .lockout s :=
  addReasonWith_member (s := showSupply .lockout s) _ h

theorem lockOutSupply_new (h : s.sv.mute.supply = false) :
    lockOutSupply s = reasonToEngine .supply (reasonAdded Config.walkEndCutsPulses .supply (showSupply .lockout s)) :=
  addReasonWith_new (s := showSupply .lockout s) _ h

/-- What the first SUPPLY makes of the Strike Unit. -/
theorem lockOutSupply_st (h : s.sv.mute.supply = false) :
    (lockOutSupply s).st = (reasonAdded Config.walkEndCutsPulses .supply (showSupply .lockout s)).st := by
  rw [lockOutSupply_new h, (reasonToEngine_supply _).1]

theorem lockOutSupply_sv (s : State) : (lockOutSupply s).sv.supply = .lockout ∧ (lockOutSupply s).sv.mute.supply = true := by
  refine ⟨?_, congrArg MuteSet.supply (addReasonWith_mute _ .supply (showSupply .lockout s))⟩
  cases h : s.sv.mute.supply with
  | true => rw [lockOutSupply_again h]; rfl
  | false => rw [lockOutSupply_new h, (reasonToEngine_supply _).2, reasonAdded_sv]; rfl

end Sys2Proof.Machine
end

section
/-! SUPPORT. The statement on the mute reasons, part by part (R172, R174, R177, R110, R164). -/

namespace Sys2Proof.Machine

variable {s : State}

/-- Each reason is in the set at most once, and apart from the others (R172). -/
theorem mute_reasons_apart (r x : MuteReason) (hx : x ≠ r) (s : State) :
    (addReason r s).sv.mute.has x = s.sv.mute.has x ∧ (removeReason r s).sv.mute.has x = s.sv.mute.has x := by
  rw [addReason, addReasonWith_mute, removeReason_sv, setReason, modSv_sv, MuteSet.has_put, MuteSet.has_put, if_neg hx, if_neg hx]
  exact ⟨rfl, rfl⟩

theorem removeReason_absent {r : MuteReason} (h : s.sv.mute.has r = false) : (removeReason r s).sv = s.sv := by
  rw [removeReason_sv, setReason, modSv_sv, MuteSet.put_self h]

theorem addReason_has (r : MuteReason) (s : State) : (addReason r s).sv.mute.has r = true := by
  rw [addReason, addReasonWith_mute, MuteSet.has_put, if_pos rfl]

/-- The first halt reason leaves no hammer coil energized (R101, R174). -/
theorem addReason_hammersOff {r : MuteReason} (hr : r.isHalt = true) (hs : s.halted = false) (b : Bell) :
    hammerGate (addReason r s) b = false := by
  rw [hammerGate, addReason, (addReasonWith_stands true (has_of_unhalted hr hs)).chan]
  exact beq_false_of_ne (reasonAdded_cuts hr (haltCuts_first true hs) b)

/-- The first halt reason cuts every pulse (R101, R117), THERMAL also beneath the performance it ends (R80). -/
theorem addReason_cuts {r : MuteReason} (hr : r.isHalt = true) (hs : s.halted = false) {b : Bell} (hb : (s.chan b).state = .pulse) :
    ((addReason r s).chan b).pulseRecord = (s.chan b).pulseRecord.cut (recoveryFrom b s) := by
  rw [addReason, (addReasonWith_stands true (has_of_unhalted hr hs)).chan]
  exact reasonAdded_cut hr (haltCuts_first true hs) hb

/-- The SUPPLY of a walk that ends NONE leaves a channel that is not in PULSE. -/
theorem lockOutSupply_leaves {b : Bell} (hb : (s.chan b).state ≠ .pulse) :
    ((lockOutSupply s).chan b).pulseRecord = (s.chan b).pulseRecord := by
  cases h : s.sv.mute.supply with
  | true => rw [lockOutSupply_again h]; rfl
  | false =>
    rw [State.chan, lockOutSupply_st h]
    exact reasonAdded_leaves _ .supply (s := showSupply .lockout s) hb

/-- Where it is the first halt reason, it cuts the pulses by one reading (R101, R117, R174). -/
theorem lockOutSupply_cuts (hs : s.halted = false) (hcut : Config.walkEndCutsPulses = true) {b : Bell} (hb : (s.chan b).state = .pulse) :
    ((lockOutSupply s).chan b).pulseRecord = (s.chan b).pulseRecord.cut (recoveryFrom b s) := by
  rw [State.chan, lockOutSupply_st (has_of_unhalted (r := .supply) rfl hs)]
  exact reasonAdded_cut (s := showSupply .lockout s) rfl ((haltCuts_first _ hs).trans hcut) hb

/-- By the other it leaves them to end by R100 (R110). -/
theorem lockOutSupply_samePulses (hs : s.halted = false) (hcut : Config.walkEndCutsPulses = false) : SamePulses s (lockOutSupply s) := by
  have hshown : SamePulses s (showSupply .lockout s) := (SamePulses.refl s).beside rfl
  have hadded := hshown.trans (reasonAdded_samePulses .supply ((haltCuts_first _ hs).trans hcut))
  exact hadded.beside (lockOutSupply_st (has_of_unhalted (r := .supply) rfl hs))

/-- A standing halt reason in a safe state (R174; log entries 52 and 79). -/
theorem safe_while_halted (hm : MotionSafe s) (hst : StrikeSafe s) (hs : s.halted = true) :
    if haltHasCut s = true then Deenergized s else DampersAndMotorsOff s := by
  have hoff : DampersAndMotorsOff s := ⟨fun b => by rw [damperOut, hst.damped hs b]; rfl, (hm.motorsOff hs).axisGate⟩
  split
  · next hcut => exact ⟨fun b => beq_false_of_ne (hst.cut hs hcut b), hoff⟩
  · exact hoff

/-- A figure's switched gate means an OPEN guard door (R164). -/
theorem MotionSafe.gate_behind_open_door (h : MotionSafe s) {d a : Axis} {dir : Direction} (hguard : s.isGuarded d a = true)
    (hgate : (s.axis a).drive.any (·.gate dir) = true) : (s.door d).state = .open := by
  obtain ⟨x, hx, -⟩ := (Option.any_eq_true _ _).mp hgate
  exact h.interlock d a hguard (h.axisDrive a (Option.isSome_of_eq_some hx))

/-- Settles O49: the set by its two updates, the first halt reason and the SUPPLY of a walk's end by what they make of each pulse, of the
dampers and of the motors, and the rest by the invariants. -/
theorem haltReasonTakesPower : Obligations.HaltReasonTakesPower := by
  intro r s cutAsHalt leftAlone
  have halted {b : Bell} {t : State} (h : (t.chan b).pulseRecord = (s.chan b).pulseRecord.cut (recoveryFrom b s)) : cutAsHalt b t := by
    simp only [Channel.pulseRecord, PulseRecord.cut, PulseRecord.mk.injEq] at h
    obtain ⟨hstate, -, hadmitted, hrecovery, hcount, htrial⟩ := h
    exact ⟨hstate, hadmitted, hrecovery, hcount, htrial⟩
  have alone {b : Bell} {t : State} (h : (t.chan b).pulseRecord = (s.chan b).pulseRecord) : leftAlone b t := by
    simp only [Channel.pulseRecord, PulseRecord.mk.injEq] at h
    obtain ⟨hstate, hend, hadmitted, hrecovery, -, -⟩ := h
    exact ⟨hstate, hend, hadmitted, hrecovery⟩
  refine ⟨addReasonWith_member true, removeReason_absent, addReason_has r s, by rw [removeReason_sv, setReason_has],
    fun x hx => mute_reasons_apart r x hx s, fun hs hr hm hst => ?_, ?_,
    fun hm hst => ⟨safe_while_halted hm hst, fun d a dir => hm.gate_behind_open_door⟩⟩
  · have hhalt : r.isHalt = true := (isHalt_iff r).mpr hr
    have hoff := addReasonWith_dampersAndMotorsOff true hhalt hm hst
    exact ⟨MuteSet.halted_of_has hhalt (addReason_has r s), ⟨addReason_hammersOff hhalt hs, hoff⟩,
      fun b hb => halted (addReason_cuts hhalt hs hb)⟩
  · obtain ⟨hlockout, hsupply⟩ := lockOutSupply_sv s
    refine ⟨hlockout, hsupply, fun h => by rw [lockOutSupply_again h]; rfl, fun b hb => alone (lockOutSupply_leaves hb), fun hs => ?_,
      fun hm hst => addReasonWith_dampersAndMotorsOff _ rfl (showSupply_motionSafe _ hm) (showSupply_strikeSafe _ hst)⟩
    split
    · next hcut => exact fun b hb => halted (lockOutSupply_cuts hs hcut hb)
    · next hcut =>
      have hsame := lockOutSupply_samePulses hs (Bool.eq_false_iff.mpr hcut)
      exact ⟨hsame.sum, fun b => alone (hsame.pulse b)⟩

end Sys2Proof.Machine
end

section
/-! SUPPORT. The request queue at work (R191, R192, R194): what each effect, the arbiter and a request's taking leave of the two queues. -/

namespace Sys2Proof.Machine

/-! ## What keeps the queues -/

/-- What waits in the Link Port's two queues. -/
def LinkPort.waiting (l : LinkPort) : List Request × List Reply := (l.requests, l.replies)

/-- A change of the notices alone leaves what waits. -/
theorem LinkPort.waiting_of_besideNotices {l m : LinkPort} (h : m.besideNotices = l.besideNotices) : m.waiting = l.waiting := by
  simpa only [LinkPort.besideNotices, LinkPort.waiting] using congrArg LinkPort.waiting h

/-- What a property must be kept by for the answers of the requests and the effects of the events to keep it: the rules of the effects, and
any change of the link port that leaves what waits in its queues. -/
structure LinkRules (P : State → Prop) : Prop extends EffectRules P where
  lp : ∀ {f : LinkPort → LinkPort} {s : State}, (f s.lp).waiting = s.lp.waiting → P s → P (s.modLp f)

theorem flushQueue_lp (s : State) : (flushQueue s).lp = s.lp :=
  forEach_keeps (P := fun t => t.lp = s.lp) (f := fun _ => countSuppressed) (fun _ _ h => h) s.su.queue s rfl

/-- A property of what waits alone meets the rules. -/
theorem waiting_linkRules (Q : List Request × List Reply → Prop) : LinkRules fun s => Q s.lp.waiting where
  strikes g h := by rwa [LinkPort.waiting_of_besideNotices g.lp]
  motion g h := by
    rwa [LinkPort.waiting_of_besideNotices (congrArg (fun l : LinkPort => { l with levels := 0 }) g.lp)]
  tb _ _ h := h
  lu _ _ h := h
  pe _ _ h := h
  pins _ _ h := h
  su _ h := h
  sv _ h := h
  notices {f s} hf h := by
    show Q (f s.lp).waiting
    rwa [LinkPort.waiting_of_besideNotices hf]
  queue _ _ h := h
  flush h := by rwa [flushQueue_lp]
  present _ h := h
  withdraw _ _ h := by rwa [flushQueue_lp]
  lp {f s} hf h := by
    show Q (f s.lp).waiting
    rwa [hf]

namespace LinkRules

variable {P : State → Prop} {s : State} (k : LinkRules P)
include k

/-- The requests that read leave the state, SET_NOTICE_MASK leaves the queues, and every other answer is an effect on the tower. -/
theorem answerOf_kept (r : Request) (h : P s) : P (answerOf r s).state := by
  have hreads : ∀ f ∈ [getSeason, getHour, getBell, readLog, getAxis, getDoor, storeResult], P (f r.payload s).state := by
    simp only [List.forall_mem_cons, getSeason, getHour, getBell, readLog, getAxis, getDoor, storeResult]
    refine ⟨?_, ?_, ?_, ?_, ?_, ?_, ?_, List.forall_mem_nil _⟩ <;> split <;> exact h
  simp only [List.forall_mem_cons] at hreads
  obtain ⟨hseason, hhour, hbell, hlog, haxis, hdoor, hresult, -⟩ := hreads
  refine answerOf_keeps (P := fun a => P a.state) r s ?_ h
  simp only [List.forall_mem_cons]
  exact ⟨h, h, k.setTime_kept _ h, h, k.setSeason_kept _ h, hseason, k.setHour_kept _ h, hhour, k.playShow_kept _ h, k.stopShow_kept _ h, h,
    k.setState_kept _ h, k.serviceRequest_kept _ h, k.resumeRequest_kept _ h, k.setCodes_kept _ h, k.strikeTest_kept _ h,
    k.selfTest_kept _ h, h, hbell, k.counterSelect_kept _ h, k.counterSnapshot_kept _ h, hlog, k.moveAxis_kept _ h, k.homeAxis_kept _ h,
    k.clearFault_kept _ h, haxis, hdoor, k.storeRead_kept _ h, k.storeWrite_kept _ h, k.storeErase_kept _ h, hresult, k.rescan_kept _ h, h,
    k.lp rfl h, h, List.forall_mem_nil _⟩

theorem judgeRequest_kept (r : Request) (h : P s) : P (judgeRequest r s).state := by
  unfold judgeRequest
  rw [apply_ite Answer.state, apply_ite Answer.state]
  exact ite_kept h (ite_kept (k.answerOf_kept r h) h)

theorem settle_kept (h : P s) : P (settle s) := settleFor_keeps (P := P) (fun i _ _ => k.immediate_kept i) _ s h

theorem linkError_kept (h : P s) : P (linkError s) := k.raise_kept _ (k.lp rfl h)

theorem rxHunt_kept (h : P s) : P (rxHunt s) := k.lp rfl h

theorem badFrame_kept (framing : Bool) (h : P s) : P (badFrame framing s) := by
  unfold badFrame
  split
  · exact h
  · exact ite_kept (k.linkError_kept (k.rxHunt_kept h)) h

theorem frameGap_kept (h : P s) : P (frameGap s) := by
  unfold frameGap
  split
  · exact h
  · exact ite_kept (k.linkError_kept (k.rxHunt_kept h)) h

theorem byteReceived_kept (b : Byte) (h : P s) : P (byteReceived b s) := by
  unfold byteReceived
  split
  · exact ite_kept (k.lp rfl h) h
  · exact k.lp rfl h

end LinkRules

/-! ## The arbiter (R194) -/

/-- Nothing waits that an idle transmitter could send. -/
def NothingToSend (l : LinkPort) : Prop := l.tx = .idle → l.replies = [] ∧ l.latch = 0

theorem arbitrate_nothingToSend (s : State) : NothingToSend (arbitrate s).lp := by
  intro hidle
  cases ht : s.lp.tx with
  | reply r | notice f => simp [arbitrate, ht] at hidle
  | idle =>
    cases hr : s.lp.replies with
    | cons r rest => simp [arbitrate, ht, hr] at hidle
    | nil =>
      by_cases hl : s.lp.latch = 0
      · simp [arbitrate, ht, hr, hl]
      · rw [arbitrate, ht] at hidle
        simp only [hr, if_neg hl] at hidle
        exact absurd hidle nofun

theorem arbitrate_requests (s : State) : (arbitrate s).lp.requests = s.lp.requests := by
  obtain h | ⟨_, _, _, h⟩ | ⟨_, _, h⟩ := arbitrate_cases s <;> rw [h] <;> rfl

theorem arbitrate_replies_le (s : State) : (arbitrate s).lp.replies.length ≤ s.lp.replies.length := by
  obtain h | ⟨r, rest, hr, h⟩ | ⟨_, _, h⟩ := arbitrate_cases s
  · rw [h]
  · rw [h, hr]
    exact Nat.le_succ _
  · rw [h]
    exact le_rfl

/-! ## One request taken (R191) -/

/-- A reply is placed behind those that wait, and what follows at the instant leaves both queues. -/
theorem reply_eq_arbitrate (r : Request) (a : Answer) :
    ∃ u x, reply r a = arbitrate u ∧ u.lp.waiting = (a.state.lp.requests, a.state.lp.replies ++ [x]) := by
  unfold reply
  dsimp only
  split
  · exact ⟨_, _, rfl, (waiting_linkRules (· = (a.state.lp.requests, a.state.lp.replies ++ [_]))).settle_kept
      (s := placeReply _ a.state) rfl⟩
  · exact ⟨_, _, rfl, rfl⟩

/-- A request that is taken alone leaves its queue, and adds one reply before the arbiter acts. -/
theorem take_eq_arbitrate (r : Request) (s : State) :
    ∃ u x, take r s = arbitrate u ∧ u.lp.waiting = (s.lp.requests.tail, s.lp.replies ++ [x]) := by
  have hjudged : (judgeRequest r (popRequest s)).state.lp.waiting = (s.lp.requests.tail, s.lp.replies) :=
    (waiting_linkRules (· = (s.lp.requests.tail, s.lp.replies))).judgeRequest_kept (s := popRequest s) r rfl
  obtain ⟨hrequests, hreplies⟩ := Prod.mk.inj hjudged
  rw [← hrequests, ← hreplies]
  exact reply_eq_arbitrate r _

theorem take_requests (r : Request) (s : State) : (take r s).lp.requests = s.lp.requests.tail := by
  obtain ⟨u, x, he, hw⟩ := take_eq_arbitrate r s
  rw [he, arbitrate_requests]
  exact (Prod.mk.inj hw).1

theorem take_replies_le (r : Request) (s : State) : (take r s).lp.replies.length ≤ s.lp.replies.length + 1 := by
  obtain ⟨u, x, he, hw⟩ := take_eq_arbitrate r s
  have hreplies : u.lp.replies = s.lp.replies ++ [x] := (Prod.mk.inj hw).2
  calc (take r s).lp.replies.length = (arbitrate u).lp.replies.length := by rw [he]
    _ ≤ u.lp.replies.length := arbitrate_replies_le u
    _ = s.lp.replies.length + 1 := by rw [hreplies, List.length_append]; rfl

theorem take_nothingToSend (r : Request) (s : State) : NothingToSend (take r s).lp := by
  obtain ⟨u, x, he, -⟩ := take_eq_arbitrate r s
  rw [he]
  exact arbitrate_nothingToSend u

/-- A head that may be taken is, and the next is judged by the same condition. -/
theorem serve_eq_serve_take {r : Request} {rest : List Request} {s : State} (hr : s.lp.requests = r :: rest)
    (hroom : s.lp.replies.length < 2) : serve s = serve (take r s) := by
  unfold serve
  rw [take_requests, hr]
  simp only [List.length_cons, List.tail_cons, serveFor, hr, if_pos hroom]

/-- Settles O5, by what a taken request leaves of the two queues. -/
theorem headsAreTakenInTurn : Obligations.HeadsAreTakenInTurn := fun s =>
  ⟨fun r rest hr hroom => ⟨by rw [take_requests, hr]; rfl, serve_eq_serve_take hr hroom⟩, serve_rest⟩

end Sys2Proof.Machine
end

section
/-! SUPPORT. The Link Port at rest at the end of every command (R191, R192, R194): every effect keeps the bounds of the two queues, and the
arbiter and the taking of requests do the rest. -/

namespace Sys2Proof.Machine

/-! ## The queues within their bounds -/

/-- Both queues are within their bounds (R191, R192). -/
def LinkBounded (s : State) : Prop := s.lp.requests.length ≤ 4 ∧ s.lp.replies.length ≤ 8

theorem linkBounded_linkRules : LinkRules LinkBounded := waiting_linkRules fun w => w.1.length ≤ 4 ∧ w.2.length ≤ 8

theorem arbitrate_linkBounded {s : State} (h : LinkBounded s) : LinkBounded (arbitrate s) :=
  ⟨(congrArg List.length (arbitrate_requests s)).trans_le h.1, (arbitrate_replies_le s).trans h.2⟩

/-- A taken request leaves at most 2 replies. -/
theorem take_linkBounded (r : Request) {s : State} (h : LinkBounded s) (hroom : s.lp.replies.length < 2) : LinkBounded (take r s) :=
  ⟨by rw [take_requests, List.length_tail]; exact (Nat.sub_le _ _).trans h.1, (take_replies_le r s).trans (by omega)⟩

/-- Serving the queue to its end leaves the Link Port at rest. -/
theorem serve_linkSafe {s : State} (h : LinkBounded s) (hsend : NothingToSend s.lp) : LinkSafe (serve s) := by
  generalize hq : s.lp.requests = q
  induction q generalizing s with
  | nil =>
    rw [serve_rest (.inl hq)]
    exact ⟨h.1, h.2, .inl hq, hsend⟩
  | cons r rest ih =>
    by_cases hroom : s.lp.replies.length < 2
    · rw [serve_eq_serve_take hq hroom]
      exact ih (take_linkBounded r h hroom) (take_nothingToSend r s) (by rw [take_requests, hq]; rfl)
    · have hfull := Nat.not_lt.mp hroom
      rw [serve_rest (.inr hfull)]
      exact ⟨h.1, h.2, .inr hfull, hsend⟩

/-- The end of every command but the power-on reset. -/
theorem serve_arbitrate_linkSafe {s : State} (h : LinkBounded s) : LinkSafe (serve (arbitrate s)) :=
  serve_linkSafe (arbitrate_linkBounded h) (arbitrate_nothingToSend s)

theorem LinkSafe.bounded {s : State} (h : LinkSafe s) : LinkBounded s := ⟨h.requests, h.replies⟩

/-! ## What the Link Port's own effects leave of the bounds -/

/-- A received request finds room, or is answered or counted as lost (R191, R192). -/
theorem receive_linkBounded (r : Request) {s : State} (h : LinkBounded s) : LinkBounded (receive r s) := by
  obtain ⟨hrequests, hreplies⟩ := h
  unfold receive
  split
  · next hroom => exact ⟨by simpa using hroom, hreplies⟩
  · split
    · next hroom => exact ⟨hrequests, by simpa [placeReply] using hroom⟩
    · exact linkBounded_linkRules.linkError_kept ⟨hrequests, hreplies⟩

theorem frameReceived_linkBounded {s : State} (h : LinkBounded s) : LinkBounded (frameReceived s) := by
  unfold frameReceived
  split
  · exact h
  · exact ite_kept (receive_linkBounded _ (linkBounded_linkRules.rxHunt_kept h)) h

/-- Both queues are empty after a soft reset (R200). -/
theorem softReset_linkBounded (s : State) : LinkBounded (softReset s) := by
  unfold softReset
  dsimp only
  refine ite_kept (linkBounded_linkRules.raise_kept _ ?_) ?_ <;> exact ⟨Nat.zero_le _, Nat.zero_le _⟩

theorem transmitEnd_linkBounded {s : State} (h : LinkBounded s) : LinkBounded (transmitEnd s) :=
  ite_kept (softReset_linkBounded s) (linkBounded_linkRules.lp rfl h)

theorem powerOn_linkSafe (b1 b0 : Bool) (s : State) : LinkSafe (powerOn b1 b0 s) :=
  ⟨Nat.zero_le _, Nat.zero_le _, .inl rfl, fun _ => ⟨rfl, rfl⟩⟩

/-! ## Commands -/

theorem linkEvent_linkSafe (dt : Nat) {effect : State → State} {s : State} (he : ∀ {t}, LinkBounded t → LinkBounded (effect t))
    (h : LinkBounded s) : Gives LinkSafe (linkEvent dt effect s) := ⟨_, rfl, serve_arbitrate_linkSafe (he (t := elapse dt s) h)⟩

theorem hostRequest_linkSafe (dt : Nat) (kind tag : Byte) (p : List Byte) {s : State} (h : LinkBounded s) :
    Gives LinkSafe (hostRequest dt kind tag p s) := linkEvent_linkSafe dt (receive_linkBounded _) h

theorem event_linkSafe (dt : Nat) {effect : State → State} {s : State} (he : ∀ {t}, LinkBounded t → LinkBounded (effect t))
    (h : LinkBounded s) : Gives LinkSafe (event dt effect s) :=
  ⟨_, rfl, serve_arbitrate_linkSafe (linkBounded_linkRules.settle_kept (he (t := elapse dt s) h))⟩

/-- An event whose effect stands under a condition. -/
theorem eventIf_linkSafe (dt : Nat) {c : State → Prop} [DecidablePred c] {effect : State → State} {s : State}
    (he : ∀ {t}, LinkBounded t → LinkBounded (effect t)) (h : LinkBounded s) :
    Gives LinkSafe (event dt (fun t => if c t then effect t else t) s) :=
  event_linkSafe dt (fun h => ite_kept (he h) h) h

/-- Every command is one form of a meaning over an effect that keeps the bounds, or the power-on reset. -/
theorem exec_linkSafe (c : Instr) {s : State} (h : LinkBounded s) : Gives LinkSafe (exec c s) := by
  have k := linkBounded_linkRules
  cases c with
  | powerOnReset b1 b0 => exact ⟨_, rfl, powerOn_linkSafe b1 b0 s⟩
  | softReset | ident | getStatus | setTime | getTime | setSeason | getSeason | setHour | getHour | playShow | stopShow | getQueue
  | setState | service | resume | setCodes | strikeTest | selfTest | getSelfTest | getBell | counterSelect | counterSnapshot | readLog
  | moveAxis | homeAxis | clearFaultBell | clearFaultAxis | getAxis | getDoor | storeRead | storeWrite | storeErase | storeResult
  | rescan | getWalkReport | setNoticeMask => exact hostRequest_linkSafe _ _ _ _ h
  | unknownKind dt kind tag p =>
    exact ite_kept (P := Gives LinkSafe) (linkEvent_linkSafe dt (effect := id) id h) (hostRequest_linkSafe dt kind tag p h)
  | frameReceived => exact linkEvent_linkSafe _ frameReceived_linkBounded h
  | badFrame => exact linkEvent_linkSafe _ (k.badFrame_kept _) h
  | frameGapTimeout => exact linkEvent_linkSafe _ k.frameGap_kept h
  | byteReceived => exact linkEvent_linkSafe _ (k.byteReceived_kept _) h
  | softResetInstant dt => exact eventIf_linkSafe dt (c := (sendingSoftResetReply ·)) (fun _ => softReset_linkBounded _) h
  | transmitEnd => exact event_linkSafe _ transmitEnd_linkBounded h
  | wallSecondStart => exact event_linkSafe _ k.wallSecond_kept h
  | slewHoldEnd => exact event_linkSafe _ k.holdOver_kept h
  | ppsEdge => exact event_linkSafe _ k.ppsEdge_kept h
  | ppsLossTimeout => exact event_linkSafe _ k.ppsLost_kept h
  | nextTriggerHandled => exact event_linkSafe _ k.nextTriggerHandled_kept h
  | heldLinkHeadDue dt => exact eventIf_linkSafe dt (c := (heldHeadDue ·)) k.examineQueue_kept h
  | dueCountReached dt => exact eventIf_linkSafe dt (c := (mayStart ·)) k.startPlaying_kept h
  | preparationLimit => exact event_linkSafe _ k.preparationLimit_kept h
  | divisionInstant => exact event_linkSafe _ k.divisionInstant_kept h
  | waitLimitExpiry => exact event_linkSafe _ k.waitLimitExpiry_kept h
  | prefetchReadEnd => exact event_linkSafe _ (k.prefetchReadEnd_kept _) h
  | stallTimeout => exact event_linkSafe _ k.stallTimeout_kept h
  | codaTimeout => exact event_linkSafe _ k.codaTimeout_kept h
  | supplyTimerExpiry => exact event_linkSafe _ k.supplyTimerExpiry_kept h
  | thermalTimerExpiry => exact event_linkSafe _ k.thermalTimerExpiry_kept h
  | selfTestHandoff => exact event_linkSafe _ k.selfTestHandoff_kept h
  | walkTransferEnd => exact event_linkSafe _ (k.walkTransferEnd_kept _) h
  | walkStatusTimeout => exact event_linkSafe _ k.walkStatusTimeout_kept h
  | storeTransferEnd => exact event_linkSafe _ (k.storeTransferEnd_kept _) h
  | storeBusyTimeout => exact event_linkSafe _ k.storeBusyTimeout_kept h
  | writeTimeout | eraseTimeout => exact event_linkSafe _ (k.changeTimeout_kept _ _) h
  | strikeHeadDue => exact event_linkSafe _ k.strikeHeadDue_kept h
  | slackExpiry => exact event_linkSafe _ k.slackExpiry_kept h
  | pulseEnd _ b => exact event_linkSafe _ (k.pulseEnd_kept b) h
  | recoveryEnd _ b => exact event_linkSafe _ (k.recoveryEnd_kept b) h
  | hlimChange _ b => exact event_linkSafe _ (k.hlimChange_kept b _) h
  | hprsActive _ b => exact event_linkSafe _ (k.hprsChange_kept b _) h
  | overCurrent _ b => exact event_linkSafe _ (k.overCurrent_kept b) h
  | presenceDeadline _ b => exact event_linkSafe _ (k.presenceDeadline_kept b) h
  | bellOffTimeEnd _ b => exact event_linkSafe _ (k.bellOffTimeEnd_kept b) h
  | decayTick => exact event_linkSafe _ k.decayTick_kept h
  | dampEnd _ b => exact event_linkSafe _ (k.damperEnd_kept b) h
  | pickupEdge _ b => exact event_linkSafe _ (k.modChan_kept b _) h
  | verifyWindowEnd _ b => exact event_linkSafe _ (k.verifyWindowEnd_kept b) h
  | axisCount _ a => exact event_linkSafe _ (fun {t} => k.motion (countAxis_onlyMotion a (.refl t))) h
  | reversalEnd _ a => exact event_linkSafe _ (k.reversalEnd_kept a) h
  | dwellEnd _ a => exact event_linkSafe _ (k.dwellOver_kept a) h
  | homeSwitchChange _ a => exact event_linkSafe _ (k.homeSwitchChange_kept a _) h
  | farSwitchActive _ a => exact event_linkSafe _ (k.farSwitchChange_kept a _) h
  | alimChange _ a => exact event_linkSafe _ (k.alimChange_kept a _) h
  | axisStall _ a => exact event_linkSafe _ (k.axisStall_kept a) h
  | travelTimeout _ a => exact event_linkSafe _ (k.travelTimeout_kept a) h
  | axisOvercurrent _ a => exact event_linkSafe _ (k.axisOvercurrent_kept a) h
  | axisOffTimeEnd _ a => exact event_linkSafe _ (k.axisOffTimeEnd_kept a) h
  | doorSwitchChange _ d => exact event_linkSafe _ (k.doorSwitchChange_kept d _ _) h
  | doorTimeout _ d => exact event_linkSafe _ (k.doorTimeout_kept d) h
  | doorOvercurrent _ d => exact event_linkSafe _ (k.doorOvercurrent_kept d) h
  | switchLost _ d => exact event_linkSafe _ (k.switchLost_kept d) h
  | doorOffTimeEnd _ d => exact event_linkSafe _ (k.doorOffTimeEnd_kept d) h
  | servicePress => exact event_linkSafe _ k.servicePress_kept h
  | lampToggle => exact event_linkSafe _ (k.setLamp_kept _) h
  | hatchOpening => exact event_linkSafe _ k.hatchShowsOpen_kept h
  | hatchClosed => exact event_linkSafe _ k.hatchCloses_kept h
  | hatchShowsClosed => exact event_linkSafe _ k.hatchShowsClosed_kept h
  | supplySample dt => exact eventIf_linkSafe dt (c := (·.now % 1000 = 0)) (k.takeSample_kept _) h
  | dieReading dt => exact eventIf_linkSafe dt (c := (·.now % 10000 = 0)) (k.takeDieReading_kept _) h
  | codeBlockEnd dt => exact eventIf_linkSafe dt (c := fun t => t.sv.hushCode.blockOver || t.sv.releaseCode.blockOver) k.endBlocks_kept h
  | codeBit => exact event_linkSafe _ (k.codeBit_kept _) h
  | serviceReqChange => exact event_linkSafe _ (k.serviceReqChange_kept _) h

/-- Settles O59: a step is one command on the state with the rest waiting, or the passing of a microsecond. -/
theorem everyStepKeepsLinkSafe : Obligations.EveryStepKeepsLinkSafe := by
  intro s t h hs
  unfold step at hs
  split at hs
  · cases hs
    exact ⟨h.requests, h.replies, h.waiting, h.idle⟩
  · next c rest _ =>
    obtain ⟨v, hv, hsafe⟩ := exec_linkSafe c (s := s.withPending rest) h.bounded
    cases hv.symm.trans hs
    exact hsafe

end Sys2Proof.Machine
end

section
/-! SUPPORT. The latch set and the levels' record, bit by bit (R195). -/

namespace Sys2Proof.Machine

/-- A bit of a set with member `j` put in or taken out. -/
theorem getLsbD_putBit {w : Nat} (x : BitVec w) (j : Nat) (v : Bool) {i : Nat} (hi : i < w) :
    (putBit x j v).getLsbD i = if i = j then v else x.getLsbD i := by
  by_cases hij : i = j
  · subst hij
    cases v <;> simp [putBit, hi]
  · by_cases hlt : i < j
    · cases v <;> simp [putBit, hij, hlt, hi]
    · have hpos : i - j ≠ 0 := by omega
      cases v <;> simp [putBit, hij, hlt, hi, hpos]

/-- A kind enters the latch set exactly where it is not masked. -/
theorem latchKind_getLsbD (k : Kind) (l : LinkPort) {i : Nat} (hi : i < 24) :
    (l.latchKind k).latch.getLsbD i = (l.latch.getLsbD i || (decide (i = k.num) && !l.mask.getLsbD i)) := by
  unfold LinkPort.latchKind
  by_cases hk : i = k.num
  · subst hk
    cases hm : l.mask.getLsbD k.num <;> simp [getLsbD_putBit _ _ _ hi]
  · split <;> simp [getLsbD_putBit _ _ _ hi, hk]

theorem Level.num_lt (v : Level) : v.num < 8 := by cases v <;> decide

theorem latchKind_levels (k : Kind) (l : LinkPort) : (l.latchKind k).levels = l.levels := by
  unfold LinkPort.latchKind
  split <;> rfl

/-- A reported level's new value enters the record. -/
theorem report_levels (v : Level) (on : Bool) (l : LinkPort) : (l.report v on).levels.getLsbD v.num = on := by
  have hput : (putBit l.levels v.num on).getLsbD v.num = on := by rw [getLsbD_putBit _ _ _ v.num_lt, if_pos rfl]
  unfold LinkPort.report
  split
  · next heq => exact beq_iff_eq.mp heq
  · dsimp only
    split
    · rw [latchKind_levels]
      exact hput
    · exact hput

/-- Its kind is latched at a rise, or at a fall where its selection is BOTH, and where it is not masked. -/
theorem report_latch (v : Level) (on : Bool) (l : LinkPort) {i : Nat} (hi : i < 24) :
    (l.report v on).latch.getLsbD i =
      (l.latch.getLsbD i ||
        (decide (i = v.kind.num) && l.levels.getLsbD v.num != on && (on || l.both.getLsbD v.num) && !l.mask.getLsbD i)) := by
  unfold LinkPort.report
  by_cases heq : l.levels.getLsbD v.num = on
  · simp [heq]
  · have hne : (l.levels.getLsbD v.num != on) = true := by simpa using heq
    cases on || l.both.getLsbD v.num
    · simp [heq]
    · simp [heq, hne, latchKind_getLsbD _ _ hi]

/-- Settles O14, bit by bit. -/
theorem noticesLatchUnlessMasked : Obligations.NoticesLatchUnlessMasked := fun s k v on _ hi =>
  ⟨latchKind_getLsbD k s.lp hi, report_levels v on s.lp, report_latch v on s.lp hi⟩

end Sys2Proof.Machine
end

section
/-! SUPPORT. Frames (R189, 10.2, 11.1): a number written in big-endian bytes is read back, and so is each part of a frame. -/

namespace Sys2Proof.Machine

theorem beBytes_length (n : Nat) : ∀ k, (beBytes n k).length = k
  | 0 => rfl
  | k + 1 => by rw [beBytes, List.length_append, beBytes_length]; rfl

/-- A number of `k` bytes is read back where it was written, whatever stands before and after it. -/
theorem numAt_beBytes (pre post : List Byte) (n k : Nat) : numAt (pre ++ (beBytes n k ++ post)) pre.length k = n % 256 ^ k := by
  induction k generalizing n post with
  | zero => simp [numAt, Nat.mod_one]
  | succ k ih =>
    have hlast : byteAt (pre ++ (beBytes (n / 256) k ++ (BitVec.ofNat 8 n :: post))) (pre.length + k) = n % 256 := by
      simp [byteAt, List.getD_eq_getElem?_getD, beBytes_length]
    have hsplit : beBytes n (k + 1) ++ post = beBytes (n / 256) k ++ (BitVec.ofNat 8 n :: post) := by simp [beBytes]
    rw [hsplit, numAt, ih, hlast, Nat.pow_succ', Nat.mod_mul]
    omega

section
variable (kind tag : Byte) (payload : List Byte)

/-- What the CRC of a frame covers: LEN, KIND, TAG and the payload (10.2). -/
def frameBody : List Byte := BitVec.ofNat 8 payload.length :: kind :: tag :: payload

theorem frameBytes_eq : frameBytes kind tag payload = 0xA5 :: frameBody kind tag payload ++ beBytes (crc16 (frameBody kind tag payload)).toNat 2 :=
  rfl

theorem frameBytes_length : (frameBytes kind tag payload).length = payload.length + 6 := by
  simp [frameBytes_eq, frameBody, beBytes_length]

theorem frameBytes_rxLen (h : payload.length ≤ 240) : rxLen (frameBytes kind tag payload) = some payload.length := by
  have hlen : payload.length % 256 = payload.length := Nat.mod_eq_of_lt (by omega)
  simp [rxLen, frameBytes_eq, frameBody, hlen]

theorem frameBytes_rxComplete (h : payload.length ≤ 240) : rxComplete (frameBytes kind tag payload) = true := by
  simp [rxComplete, frameBytes_rxLen kind tag payload h, frameBytes_length]

theorem frameBytes_rxCrcMatches : rxCrcMatches (frameBytes kind tag payload) = true := by
  have hbody : ((frameBytes kind tag payload).drop 1).take (payload.length + 3) = frameBody kind tag payload :=
    List.take_left' rfl
  have hcrc := numAt_beBytes (0xA5 :: frameBody kind tag payload) [] (crc16 (frameBody kind tag payload)).toNat 2
  have hfits : (crc16 (frameBody kind tag payload)).toNat < 256 ^ 2 := (crc16 (frameBody kind tag payload)).isLt
  rw [List.append_nil, ← frameBytes_eq, Nat.mod_eq_of_lt hfits] at hcrc
  unfold rxCrcMatches
  rw [frameBytes_length, beq_iff_eq]
  exact (congrArg (fun l => (crc16 l).toNat) hbody).trans hcrc.symm

theorem frameBytes_rxRequest : rxRequest (frameBytes kind tag payload) = ⟨kind, tag, payload⟩ := by
  have hpayload : ((frameBytes kind tag payload).drop 4).take payload.length = payload := List.take_left' rfl
  rw [rxRequest, frameBytes_length, Nat.add_sub_cancel, hpayload]
  rfl

end

/-- Settles O16: LEN, the CRC and the three parts of the request are each read back. -/
theorem frameRoundTrip : Obligations.FrameRoundTrip := by
  intro kind tag payload hkind htag hlen
  have hkindByte : byteAt (frameBytes kind tag payload) 2 = kind.toNat := rfl
  have htagByte : byteAt (frameBytes kind tag payload) 3 ≠ 0 := fun h => htag (BitVec.eq_of_toNat_eq h)
  refine ⟨frameBytes_rxComplete kind tag payload hlen, ?_, frameBytes_rxRequest kind tag payload⟩
  simp [rxBad, frameBytes_rxLen kind tag payload hlen, frameBytes_rxCrcMatches, hkindByte, htagByte, hkind, hlen]

end Sys2Proof.Machine
end

section
/-! SUPPORT. The Link Port's own commands: requests of no kind or of a wrong length (R191), what the receiver and the transmitter do at
their instants (R189, R190, R194, R200), and an instant at which nothing follows. -/

namespace Sys2Proof.Machine

/-! ## Requests that are not judged further (R191) -/

theorem requiredLength_eq_none {kind : Byte} (p : List Byte) (h : kind.toNat = 0 ∨ 0x24 ≤ kind.toNat) :
    requiredLength kind p = none := by
  unfold requiredLength
  split
  on_goal -1 => rfl
  all_goals omega

theorem judge_unknownKind {r : Request} (s : State) (h : requiredLength r.kind r.payload = none) :
    judgeRequest r s = refuse .unknownKind s := by simp [judgeRequest, h]

theorem judge_badLength {r : Request} {n : Nat} (s : State) (h : requiredLength r.kind r.payload = some n) (hn : r.payload.length ≠ n) :
    judgeRequest r s = refuse .badLength s := by
  simp [judgeRequest, lengthFits, h, Ne.symm hn]

/-- Settles O4, by the first two steps of the judgment. -/
theorem badRequestsAreAnswered : Obligations.BadRequestsAreAnswered := by
  intro dt kind tag payload s u hu h
  refine ⟨fun hkind _ => ?_, fun n hn hlen => refusal_answers hu h rfl (judge_badLength u hn hlen)⟩
  have hnone := requiredLength_eq_none payload hkind
  have hexec : exec (.unknownKind dt kind tag payload) s = hostRequest dt kind tag payload s := by
    show execUnknownKind dt kind tag payload s = _
    simp [execUnknownKind, hnone]
  exact hexec.trans (refusal_answers hu h rfl (judge_unknownKind u hnone))

/-! ## The receiver (R189, R190) -/

section
variable {s : State} {bytes : List Byte} {last : Nat}

theorem byteReceived_passes {b : Byte} (hrx : s.lp.rx = .hunting) (hb : b ≠ 0xA5) : byteReceived b s = s := by
  simp only [byteReceived, hrx, if_neg hb]

theorem byteReceived_starts (hrx : s.lp.rx = .hunting) :
    byteReceived 0xA5 s = s.modLp fun l => { l with rx := .inFrame [0xA5] s.now } := by
  simp only [byteReceived, hrx, if_pos]

theorem byteReceived_appends (b : Byte) (hrx : s.lp.rx = .inFrame bytes last) :
    byteReceived b s = s.modLp fun l => { l with rx := .inFrame (bytes ++ [b]) s.now } := by
  simp only [byteReceived, hrx]

theorem frameReceived_gives (hrx : s.lp.rx = .inFrame bytes last) (hc : rxComplete bytes = true) (hb : rxBad bytes = false) :
    frameReceived s = receive (rxRequest bytes) (rxHunt s) := by
  simp [frameReceived, hrx, hc, hb]

theorem badFrame_discards {framing : Bool} (hrx : s.lp.rx = .inFrame bytes last) (hb : framing = true ∨ rxBad bytes = true) :
    badFrame framing s = linkError (rxHunt s) := by
  have hbad : (framing || rxBad bytes) = true := Bool.or_eq_true_iff.mpr hb
  simp only [badFrame, hrx, if_pos hbad]

theorem frameGap_discards (hrx : s.lp.rx = .inFrame bytes last) (hgap : last + 20001 ≤ s.now) :
    frameGap s = linkError (rxHunt s) := by
  simp only [frameGap, hrx, if_pos hgap]

end

/-! ## The transmitter (R194, R200) -/

theorem sendingSoftResetReply_of_reply {tag : Byte} {s : State} (h : s.lp.tx = .reply ⟨0xA3, tag, .ok, []⟩) :
    sendingSoftResetReply s = true := by
  simp [sendingSoftResetReply, h]

theorem not_sendingSoftResetReply {s : State} (h : ∀ r, s.lp.tx = .reply r → r.kind ≠ 0xA3) : sendingSoftResetReply s = false := by
  unfold sendingSoftResetReply
  split
  · next r hr => simp only [beq_eq_false_iff_ne.mpr (h r hr), Bool.false_and]
  · rfl
  · rfl

/-- Settles O13: each effect where its condition holds, at the instant of its command. -/
theorem linkFrameCommands : Obligations.LinkFrameCommands := by
  refine ⟨fun dt s u hu => ⟨fun b hrx hb => ?_, fun hrx => ?_, fun b bytes last hrx => ?_, fun bytes last hrx hc hb => ?_,
    fun framing bytes last hrx hb => ?_, fun bytes last hrx hgap => ?_⟩,
    fun dt tag s u hu => ⟨fun h => ?_, fun hsending => ?_, fun hother => ?_⟩⟩
  · exact linkEvent_answers hu (byteReceived b) (byteReceived_passes hrx hb)
  · exact linkEvent_answers hu (byteReceived 0xA5) (byteReceived_starts hrx)
  · exact linkEvent_answers hu (byteReceived b) (byteReceived_appends b hrx)
  · exact linkEvent_answers hu frameReceived (frameReceived_gives hrx hc hb)
  · exact linkEvent_answers hu (badFrame framing) (badFrame_discards hrx hb)
  · exact linkEvent_answers hu frameGap (frameGap_discards hrx hgap)
  · exact ask_answers hu h rfl rfl rfl
  · have hreset : ∀ t, (if sendingSoftResetReply u then softReset u else t) = softReset u := fun t =>
      if_pos (sendingSoftResetReply_of_reply hsending)
    exact ⟨event_answers hu transmitEnd (hreset _),
      event_answers hu (fun t => if sendingSoftResetReply t then softReset t else t) (hreset _)⟩
  · exact event_answers hu transmitEnd (if_neg (Bool.eq_false_iff.mp (not_sendingSoftResetReply hother)))

/-! ## An instant at which nothing follows -/

theorem settle_rest {s : State} (h : ∀ i : Immediate, i.due s = false) : settle s = s := by
  have hnone : allImmediate.find? (Immediate.due s) = none := List.find?_eq_none.mpr fun i _ => Bool.eq_false_iff.mp (h i)
  simp only [settle, settleFor, hnone]

/-- The arbiter touches the replies, the transmitter, the latch set and the kinds in transit alone (R194). -/
theorem arbitrate_frame (s : State) :
    ∃ l : LinkPort, arbitrate s = { s with lp := l } ∧ l.requests = s.lp.requests ∧ l.rx = s.lp.rx ∧ l.mask = s.lp.mask ∧
      l.both = s.lp.both ∧ l.levels = s.lp.levels ∧ l.errors = s.lp.errors ∧ l.baud1 = s.lp.baud1 ∧ l.baud0 = s.lp.baud0 := by
  obtain h | ⟨_, _, _, h⟩ | ⟨_, _, h⟩ := arbitrate_cases s <;> rw [h] <;> exact ⟨_, rfl, rfl, rfl, rfl, rfl, rfl, rfl, rfl, rfl⟩

/-- Settles O15: nothing settles, and the arbiter's frame. -/
theorem nothingDueLeavesTheArbiter : Obligations.NothingDueLeavesTheArbiter := by
  intro s h
  have hfinish : finish s = serve (arbitrate s) := by rw [finish, conclude, settle_rest h]
  refine ⟨hfinish, fun hempty => ?_, arbitrate_frame s⟩
  rw [hfinish, serve_rest (.inl ((arbitrate_requests s).trans hempty))]

end Sys2Proof.Machine
end

section
/-! SUPPORT. The queue of commands (log entry 47). -/

namespace Sys2Proof.Machine

/-- Where a command waits, the other branch of `step`, the passing of a microsecond, is not taken. -/
theorem step_of_pending_cons {c : Instr} {rest : List Instr} {s : State} (h : s.pending = c :: rest) :
    step s = exec c (s.withPending rest) := by
  simp only [step, h]

/-- Settles O1: the front command runs, and replacing the queue twice leaves the second queue. -/
theorem stepRunsFrontCommand : Obligations.StepRunsFrontCommand := by
  intro c rest s
  calc step (s.withPending (c :: rest))
      _ = exec c ((s.withPending (c :: rest)).withPending rest) := step_of_pending_cons (withPending_pending _ s)
      _ = exec c (s.withPending rest) := rfl

end Sys2Proof.Machine
end

section
/-! SUPPORT. The Motion Unit at rest, and what one update of an axis, of a door or of another block keeps of `MotionSafe` (R52, R164, R174).
-/

namespace Sys2Proof.Machine

variable {s t : State}

/-! ## The Motion Unit at rest -/

/-- The axis is undriven, and neither drives nor waits to drive. -/
structure AxisRecord.Rests (r : AxisRecord) : Prop where
  undriven : r.drive = none
  stands : r.state.drives = false
  ready : r.state ≠ .waitDoor

/-- The door is undriven and does not travel. -/
structure DoorRecord.Rests (r : DoorRecord) : Prop where
  undriven : r.drive = none
  stands : r.state.travels = false

/-- Every axis and every door rests. -/
structure MotorsRest (s : State) : Prop where
  axes : ∀ a : Axis, (s.axis a).Rests
  doors : ∀ d : Axis, (s.door d).Rests

/-- What `MotionSafe` asks of the Library Unit alone. -/
structure LibrarySafe (s : State) : Prop where
  walkLocked : s.lu.walk.isSome = true → s.partLocked = true
  leaders : ∀ p : Profile, s.lu.profile = some p → Profile.LeadersApart p
  validated : ∀ (w : Walk) (p : Profile), s.lu.walk = some w → w.install = some (some p) → Profile.LeadersApart p

theorem MotionSafe.library (h : MotionSafe s) : LibrarySafe s := ⟨h.walkLocked, h.leaders, h.validated⟩

/-- A motor that rests is safe whatever else holds. -/
theorem MotorsRest.motionSafe (h : MotorsRest s) (hl : LibrarySafe s) : MotionSafe s where
  axisDrive a hd := by rw [(h.axes a).undriven] at hd; cases hd
  doorDrive d hd := by rw [(h.doors d).undriven] at hd; cases hd
  still _ := ⟨fun a => ⟨(h.axes a).stands, (h.axes a).ready⟩, fun d => (h.doors d).stands⟩
  walkLocked := hl.walkLocked
  interlock _ a _ hd := by rw [(h.axes a).stands] at hd; cases hd
  leaders := hl.leaders
  validated := hl.validated

/-- An axis that does not drive has no drive. -/
theorem MotionSafe.axis_undriven (h : MotionSafe s) {a : Axis} (ha : (s.axis a).state.drives = false) : (s.axis a).drive = none :=
  Option.not_isSome_iff_eq_none.mp fun hd => Bool.eq_false_iff.mp ha (h.axisDrive a hd)

/-- While a halt reason stands or the part is LOCKED, every motor rests (R52, R174). -/
theorem MotionSafe.motorsRest (h : MotionSafe s) (hs : s.halted = true ∨ s.partLocked = true) : MotorsRest s := by
  obtain ⟨haxes, hdoors⟩ := h.still hs
  refine ⟨fun a => ⟨h.axis_undriven (haxes a).1, (haxes a).1, (haxes a).2⟩, fun d => ⟨?_, hdoors d⟩⟩
  exact Option.not_isSome_iff_eq_none.mp fun hd => Bool.eq_false_iff.mp (hdoors d) (h.doorDrive d hd)

theorem MotorsRest.same (h : MotorsRest s) (hmu : t.mu = s.mu) : MotorsRest t :=
  ⟨fun a => by rw [State.axis, hmu]; exact h.axes a, fun d => by rw [State.door, hmu]; exact h.doors d⟩

/-- No halt reason stands and the part is not LOCKED: motors may run. -/
structure MotorsAllowed (s : State) : Prop where
  powered : s.halted = false
  unlocked : s.partLocked = false

theorem MotorsAllowed.not_still (h : MotorsAllowed s) : ¬ (s.halted = true ∨ s.partLocked = true) := by
  simp [h.powered, h.unlocked]

/-- An axis that drives or waits to, or a door that travels, says that motors may run. -/
theorem MotionSafe.motorsAllowed (h : MotionSafe s) (hm : ¬ MotorsRest s) : MotorsAllowed s :=
  ⟨Bool.eq_false_iff.mpr fun hs => hm (h.motorsRest (.inl hs)), Bool.eq_false_iff.mpr fun hs => hm (h.motorsRest (.inr hs))⟩

theorem MotionSafe.allowed_of_axis (h : MotionSafe s) {a : Axis} (ha : ¬ (s.axis a).Rests) : MotorsAllowed s :=
  h.motorsAllowed fun hr => ha (hr.axes a)

theorem MotionSafe.allowed_of_door (h : MotionSafe s) {d : Axis} (hd : ¬ (s.door d).Rests) : MotorsAllowed s :=
  h.motorsAllowed fun hr => hd (hr.doors d)

/-! ## Other blocks -/

/-- The Motion Unit, the working profile, the directory state, the walk and the mute reason set are all that `MotionSafe` is about; a halt
reason that leaves does no harm. -/
theorem MotionSafe.same (h : MotionSafe s) (he : (t.mu, t.lu.profile, t.lu.dirState, t.lu.walk) = (s.mu, s.lu.profile, s.lu.dirState, s.lu.walk))
    (hhalt : t.halted = true → s.halted = true) : MotionSafe t := by
  simp only [Prod.mk.injEq] at he
  obtain ⟨hmu, hprofile, hdir, hwalk⟩ := he
  have hlocked : t.partLocked = s.partLocked := by rw [State.partLocked, hdir]; rfl
  have haxis : ∀ a, t.axis a = s.axis a := fun a => by rw [State.axis, hmu]; rfl
  have hdoor : ∀ d, t.door d = s.door d := fun d => by rw [State.door, hmu]; rfl
  have hguarded : ∀ d a, t.isGuarded d a = s.isGuarded d a := fun d a => by
    simp only [State.isGuarded, State.isFigure, State.guardDoor, State.axisProfile, hprofile]
  refine ⟨fun a => ?_, fun d => ?_, fun hs => ?_, ?_, fun d a => ?_, ?_, ?_⟩
  · rw [haxis]; exact h.axisDrive a
  · rw [hdoor]; exact h.doorDrive d
  · simp only [MotionStill, haxis, hdoor]
    exact h.still (hs.imp hhalt (hlocked ▸ ·))
  · rw [hwalk, hlocked]; exact h.walkLocked
  · rw [hguarded, haxis, hdoor]; exact h.interlock d a
  · rw [hprofile]; exact h.leaders
  · rw [hwalk]; exact h.validated

/-- What leaves all of these alone; where the update is a single one, `rfl` says so. -/
theorem MotionSafe.beside (h : MotionSafe s)
    (he : (t.mu, t.lu.profile, t.lu.dirState, t.lu.walk, t.sv.mute) = (s.mu, s.lu.profile, s.lu.dirState, s.lu.walk, s.sv.mute)) :
    MotionSafe t := by
  simp only [Prod.mk.injEq] at he
  obtain ⟨hmu, hprofile, hdir, hwalk, hmute⟩ := he
  exact h.same (by rw [hmu, hprofile, hdir, hwalk]) fun hs => by rwa [State.halted, hmute] at hs

theorem MotionSafe.strikes (h : MotionSafe s) (g : OnlyStrikes s t) : MotionSafe t := h.beside (by rw [g.mu, g.lu, g.sv])

/-! ## Updates of one record -/

/-- The guard door of an axis is OPEN, where it has one (R164). -/
def DoorOpenFor (s : State) (a : Axis) : Prop := ∀ d : Axis, s.isGuarded d a = true → (s.door d).state = .open

theorem MotionSafe.modAxis (h : MotionSafe s) {a : Axis} {f : AxisRecord → AxisRecord}
    (hdrive : (f (s.axis a)).drive.isSome = true → (f (s.axis a)).state.drives = true)
    (hstill : s.halted = true ∨ s.partLocked = true → (f (s.axis a)).state.drives = false ∧ (f (s.axis a)).state ≠ .waitDoor)
    (hdoor : (f (s.axis a)).state.drives = true → DoorOpenFor s a) : MotionSafe (s.modAxis a f) where
  axisDrive x := by
    rw [modAxis_axis]
    split
    · exact hdrive
    · exact h.axisDrive x
  doorDrive := h.doorDrive
  still hs := by
    refine ⟨fun x => ?_, (h.still hs).2⟩
    rw [modAxis_axis]
    split
    · exact hstill hs
    · exact (h.still hs).1 x
  walkLocked := h.walkLocked
  interlock d x := by
    rw [modAxis_axis]
    split
    · next hx => subst hx; exact fun hg hd => hdoor hd d hg
    · exact h.interlock d x
  leaders := h.leaders
  validated := h.validated

/-- An axis comes to rest. -/
theorem MotionSafe.modAxis_rests (h : MotionSafe s) {a : Axis} {f : AxisRecord → AxisRecord} (hf : (f (s.axis a)).Rests) :
    MotionSafe (s.modAxis a f) :=
  h.modAxis (fun hd => by rw [hf.undriven] at hd; cases hd) (fun _ => ⟨hf.stands, hf.ready⟩)
    fun hd => by rw [hf.stands] at hd; cases hd

/-- An axis keeps its state, and is driven only where it was. -/
theorem MotionSafe.modAxis_goesOn (h : MotionSafe s) {a : Axis} {f : AxisRecord → AxisRecord}
    (hstate : (f (s.axis a)).state = (s.axis a).state)
    (hdrive : (f (s.axis a)).drive.isSome = true → (s.axis a).drive.isSome = true) : MotionSafe (s.modAxis a f) := by
  refine h.modAxis (fun hd => ?_) (fun hs => ?_) fun hd d hg => ?_
  · rw [hstate]; exact h.axisDrive a (hdrive hd)
  · rw [hstate]; exact (h.still hs).1 a
  · exact h.interlock d a hg (hstate ▸ hd)

/-- An axis waits for its door. -/
theorem MotionSafe.modAxis_waits (h : MotionSafe s) (hm : MotorsAllowed s) {a : Axis} {f : AxisRecord → AxisRecord}
    (hf : (f (s.axis a)).state = .waitDoor) (hdrive : (f (s.axis a)).drive = none) : MotionSafe (s.modAxis a f) :=
  h.modAxis (fun hd => by rw [hdrive] at hd; cases hd) (fun hs => absurd hs hm.not_still)
    fun hd => by rw [hf] at hd; cases hd

/-- An axis drives behind an OPEN door. -/
theorem MotionSafe.modAxis_drives (h : MotionSafe s) (hm : MotorsAllowed s) {a : Axis} {f : AxisRecord → AxisRecord}
    (hf : (f (s.axis a)).state.drives = true) (hdoor : DoorOpenFor s a) : MotionSafe (s.modAxis a f) :=
  h.modAxis (fun _ => hf) (fun hs => absurd hs hm.not_still) fun _ => hdoor

theorem MotionSafe.modDoor (h : MotionSafe s) {d : Axis} {f : DoorRecord → DoorRecord}
    (hdrive : (f (s.door d)).drive.isSome = true → (f (s.door d)).state.travels = true)
    (hstill : s.halted = true ∨ s.partLocked = true → (f (s.door d)).state.travels = false)
    (hopen : ∀ a : Axis, s.isGuarded d a = true → (s.axis a).state.drives = true → (f (s.door d)).state = .open) :
    MotionSafe (s.modDoor d f) where
  axisDrive := h.axisDrive
  doorDrive x := by
    rw [modDoor_door]
    split
    · exact hdrive
    · exact h.doorDrive x
  still hs := by
    refine ⟨(h.still hs).1, fun x => ?_⟩
    rw [modDoor_door]
    split
    · exact hstill hs
    · exact (h.still hs).2 x
  walkLocked := h.walkLocked
  interlock x a := by
    rw [modDoor_door]
    split
    · next hx => subst hx; exact hopen a
    · exact h.interlock x a
  leaders := h.leaders
  validated := h.validated

/-- A door keeps its state, and is driven only where it was. -/
theorem MotionSafe.modDoor_goesOn (h : MotionSafe s) {d : Axis} {f : DoorRecord → DoorRecord}
    (hstate : (f (s.door d)).state = (s.door d).state)
    (hdrive : (f (s.door d)).drive.isSome = true → (s.door d).drive.isSome = true) : MotionSafe (s.modDoor d f) := by
  refine h.modDoor (fun hd => ?_) (fun hs => ?_) fun a hg hd => ?_
  · rw [hstate]; exact h.doorDrive d (hdrive hd)
  · rw [hstate]; exact (h.still hs).2 d
  · rw [hstate]; exact h.interlock d a hg hd

/-- No guarded axis of the door drives (R164). -/
def GuardedStand (s : State) (d : Axis) : Prop := ∀ a : Axis, s.isGuarded d a = true → (s.axis a).state.drives = false

/-- A door stands still, OPEN or with none of its guarded axes driving. -/
theorem MotionSafe.modDoor_rests (h : MotionSafe s) {d : Axis} {f : DoorRecord → DoorRecord} (hf : (f (s.door d)).Rests)
    (hopen : (f (s.door d)).state = .open ∨ GuardedStand s d) : MotionSafe (s.modDoor d f) := by
  refine h.modDoor (fun hd => by rw [hf.undriven] at hd; cases hd) (fun _ => hf.stands) fun a hg hd => ?_
  rcases hopen with hopen | hstand
  · exact hopen
  · rw [hstand a hg] at hd; cases hd

/-- A door travels while none of its guarded axes drives. -/
theorem MotionSafe.modDoor_travels (h : MotionSafe s) (hm : MotorsAllowed s) {d : Axis} {f : DoorRecord → DoorRecord}
    (hf : (f (s.door d)).state.travels = true) (hstand : GuardedStand s d) : MotionSafe (s.modDoor d f) :=
  h.modDoor (fun _ => hf) (fun hs => absurd hs hm.not_still) fun a hg hd => by rw [hstand a hg] at hd; cases hd

/-- None of the guarded axes drives while the door is not OPEN. -/
theorem MotionSafe.guardedStand (h : MotionSafe s) {d : Axis} (hd : (s.door d).state ≠ .open) : GuardedStand s d :=
  fun a hg => Bool.eq_false_iff.mpr fun ha => hd (h.interlock d a hg ha)

theorem isGuarded_iff {d a : Axis} : s.isGuarded d a = true ↔ s.isFigure a = true ∧ s.guardDoor a = some d := by
  simp [State.isGuarded]

theorem doorOpenFor_of_unguarded {a : Axis} (h : s.guardDoor a = none) : DoorOpenFor s a := fun d hg => by
  obtain ⟨-, hd⟩ := isGuarded_iff.mp hg
  rw [h] at hd; cases hd

theorem doorOpenFor_of_guard {d a : Axis} (h : s.guardDoor a = some d) (hopen : (s.door d).state = .open) : DoorOpenFor s a := fun x hg => by
  obtain ⟨-, hx⟩ := isGuarded_iff.mp hg
  cases h.symm.trans hx
  exact hopen

end Sys2Proof.Machine
end

section
/-! SUPPORT. Both resets and the state this model starts from meet the invariants (R13, R40, R61, R89, R111, R133, R156, R187, R195). -/

namespace Sys2Proof.Machine

variable {s : State}

theorem AxisRecord.reset_rests : AxisRecord.reset.Rests := ⟨rfl, rfl, nofun⟩

/-- A door that is read stands at a switch or in DOOR_FAULT (R157). -/
theorem DoorRecord.read_rests (isOpen isClosed : Bool) (now : Nat) (r : DoorRecord) : (r.read isOpen isClosed now).Rests := by
  refine ⟨rfl, ?_⟩
  cases isOpen <;> cases isClosed <;> rfl

/-- The Motion Unit rests over either reset (R156, R171). -/
theorem motorsRest_of_resetMotion {pins : Pins} {now : Nat} (h : s.mu = resetMotion pins now) : MotorsRest s where
  axes a := by
    have ha : s.axis a = AxisRecord.reset := by simp [State.axis, h, resetMotion]
    rw [ha]; exact AxisRecord.reset_rests
  doors d := by
    have hd : s.door d = DoorRecord.blank.read (pins.far.getLsbD d.val) (pins.home.getLsbD d.val) now := by
      simp [State.door, h, resetMotion, resetDoors]
    rw [hd]; exact DoorRecord.read_rests _ _ _ _

/-- Over either reset a walk begins, and the part is LOCKED (R61). -/
theorem librarySafe_of_reset {profile : Option Profile} (h : s.lu = LibraryUnit.reset profile)
    (hp : ∀ p : Profile, profile = some p → Profile.LeadersApart p) : LibrarySafe s where
  walkLocked _ := by rw [State.partLocked, h]; rfl
  leaders p hs := hp p (by rw [h] at hs; exact hs)
  validated w p hw hi := by
    rw [h] at hw
    cases hw
    cases hi

theorem motionSafe_reset : MotionSafe State.reset :=
  MotorsRest.motionSafe (motorsRest_of_resetMotion (pins := Pins.reset) (now := 0) (by decide)) (librarySafe_of_reset rfl nofun)

/-- A channel after reset (R111, R133). -/
theorem reset_chan (b : Bell) : State.reset.chan b = Channel.reset := by
  simp [State.chan, State.reset, StrikeUnit.reset]

theorem strikeSafe_reset : StrikeSafe State.reset where
  cut _ _ b := by rw [reset_chan]; nofun
  damped _ b := by rw [reset_chan]; rfl
  muted _ := rfl
  bound := by decide
  order := .nil

theorem currentSafe_reset : CurrentSafe State.reset where
  sum := by simp only [reset_chan]; rfl
  released b _ := by rw [reset_chan]; rfl

/-- Without a working profile no bell is present. -/
theorem heatSafe_reset : HeatSafe State.reset := fun _ hb => absurd hb Bool.false_ne_true

/-- Settles O53, invariant by invariant. -/
theorem resetMeetsInvariants : Obligations.ResetMeetsInvariants :=
  ⟨motionSafe_reset, strikeSafe_reset, currentSafe_reset, heatSafe_reset, ⟨by decide, fun _ => rfl⟩,
    ⟨by decide, by decide, .inl rfl, fun _ => ⟨rfl, rfl⟩⟩, ⟨rfl, by decide, fun _ => ⟨rfl, rfl⟩⟩⟩

end Sys2Proof.Machine
end

section
/-! SUPPORT. The axes' operations keep the Motion Unit safe and leave the doors (`SafeBehind`), in the order of Machine/Motion.lean. -/

namespace Sys2Proof.Machine

variable {s t : State} {a : Axis}

/-! ## Records at rest -/

theorem AxisRecord.fault_rests (p : AxisProfile) (k : AxisFaultKind) (now : Nat) (r : AxisRecord) : (r.fault p k now).Rests := by
  have hdrive := (AxisRecord.fault_drops (p := p) (k := k) (now := now) (r := r)).1
  obtain ⟨hstate, -⟩ := AxisRecord.fault_of_retry (p := p) (k := k) (now := now) (r := r) rfl
  refine ⟨hdrive, ?_, ?_⟩
  · rw [hstate]; split <;> rfl
  · rw [hstate]; split <;> nofun

theorem AxisRecord.restAtTarget_rests (r : AxisRecord) : r.restAtTarget.Rests := ⟨rfl, rfl, nofun⟩

theorem AxisRecord.atHome_rests (r : AxisRecord) : r.atHome.Rests := ⟨rfl, rfl, nofun⟩

theorem AxisRecord.unreference_rests (r : AxisRecord) : r.unreference.Rests := ⟨rfl, rfl, nofun⟩

theorem AxisRecord.lock_rests (r : AxisRecord) : r.lock.Rests := ⟨rfl, rfl, nofun⟩

theorem AxisRecord.giveHome_rests (r : AxisRecord) : r.giveHome.Rests := by
  obtain ⟨hstate, -, -, hdrive, -⟩ := r.giveHome_gives
  exact ⟨hdrive, by rw [hstate]; rfl, by rw [hstate]; nofun⟩

theorem AxisRecord.endRunner_rests {r : AxisRecord} (h : r.drive = none) : r.endRunner.Rests := ⟨h, rfl, nofun⟩

/-! ## What an axis's operation leaves of the other axes -/

section
variable {x : Axis} (hx : x ≠ a)
include hx

theorem axisFault_axis_ne (k : AxisFaultKind) (s : State) : (axisFault k a s).axis x = s.axis x := by
  unfold axisFault
  split
  · rfl
  · exact modAxis_axis_ne hx _ s

theorem judgeLimit_axis_ne (s : State) : (judgeLimit a s).axis x = s.axis x := by
  unfold judgeLimit
  split
  · rfl
  · split
    · exact axisFault_axis_ne hx _ s
    · rfl

theorem driveToTarget_axis_ne (s : State) : (driveToTarget a s).axis x = s.axis x := by
  unfold driveToTarget
  split
  · exact (judgeLimit_axis_ne hx _).trans (modAxis_axis_ne hx _ s)
  · rfl

theorem beginMove_axis_ne (s : State) : (beginMove a s).1.axis x = s.axis x := by
  unfold beginMove
  split
  · exact driveToTarget_axis_ne hx s
  · split
    · exact driveToTarget_axis_ne hx s
    all_goals exact modAxis_axis_ne hx _ s

theorem retarget_axis_ne (g : Target) (s : State) : (retarget g a s).axis x = s.axis x := by
  unfold retarget
  split
  · rfl
  · exact (judgeLimit_axis_ne hx _).trans (modAxis_axis_ne hx _ s)

theorem giveOne_axis_ne (g : Target) (s : State) : (giveOne g a s).1.axis x = s.axis x := by
  obtain ⟨f, _, he⟩ | he | ⟨f, he⟩ := giveOne_cases g a s <;> rw [he]
  · exact modAxis_axis_ne hx f s
  · exact retarget_axis_ne hx g s
  · exact (beginMove_axis_ne hx _).trans (modAxis_axis_ne hx f s)

end

/-! ## Safe behind the doors as they stand -/

/-- The Motion Unit is safe, and its doors are those given. -/
structure SafeBehind (doors : Vector DoorRecord 8) (s : State) : Prop where
  safe : MotionSafe s
  same : s.mu.doors = doors

theorem MotionSafe.behind (h : MotionSafe s) : SafeBehind s.mu.doors s := ⟨h, rfl⟩

theorem MotorsAllowed.modAxis (h : MotorsAllowed s) (a : Axis) (f : AxisRecord → AxisRecord) : MotorsAllowed (s.modAxis a f) :=
  ⟨h.powered, h.unlocked⟩

theorem DoorOpenFor.modAxis (h : DoorOpenFor s a) (f : AxisRecord → AxisRecord) : DoorOpenFor (s.modAxis a f) a := h

/-- A follower is another axis than its leader (R50, row 13). -/
theorem MotionSafe.leader_ne (h : MotionSafe s) {p : AxisProfile} {f : Axis} (hp : s.axisProfile f = some p) (hl : p.leader = some a) :
    a ≠ f := by
  rintro rfl
  unfold State.axisProfile at hp
  cases hprofile : s.lu.profile with
  | none => rw [hprofile] at hp; cases hp
  | some q =>
    simp only [hprofile, Option.ite_none_right_eq_some, Option.some.injEq] at hp
    obtain ⟨hpresent, rfl⟩ := hp
    exact h.leaders q hprofile a hpresent hl

namespace SafeBehind

variable {doors : Vector DoorRecord 8}

theorem modAxis_rests (h : SafeBehind doors s) {f : AxisRecord → AxisRecord} (hf : (f (s.axis a)).Rests) :
    SafeBehind doors (s.modAxis a f) := ⟨h.safe.modAxis_rests hf, h.same⟩

theorem modAxis_goesOn (h : SafeBehind doors s) {f : AxisRecord → AxisRecord}
    (hstate : (f (s.axis a)).state = (s.axis a).state)
    (hdrive : (f (s.axis a)).drive.isSome = true → (s.axis a).drive.isSome = true) : SafeBehind doors (s.modAxis a f) :=
  ⟨h.safe.modAxis_goesOn hstate hdrive, h.same⟩

theorem modAxis_waits (h : SafeBehind doors s) (hm : MotorsAllowed s) {f : AxisRecord → AxisRecord}
    (hf : (f (s.axis a)).state = .waitDoor) (hdrive : (f (s.axis a)).drive = none) : SafeBehind doors (s.modAxis a f) :=
  ⟨h.safe.modAxis_waits hm hf hdrive, h.same⟩

theorem modAxis_drives (h : SafeBehind doors s) (hm : MotorsAllowed s) {f : AxisRecord → AxisRecord}
    (hf : (f (s.axis a)).state.drives = true) (hdoor : DoorOpenFor s a) : SafeBehind doors (s.modAxis a f) :=
  ⟨h.safe.modAxis_drives hm hf hdoor, h.same⟩

/-! ## Faults and targets (R137, R138, R148 to R150) -/

theorem axisFault_kept (k : AxisFaultKind) (h : SafeBehind doors s) : SafeBehind doors (axisFault k a s) := by
  unfold axisFault
  split
  · exact h
  · next p _ =>
    have hfault := h.modAxis_rests (a := a) (f := (·.fault p k s.now)) (AxisRecord.fault_rests p k s.now _)
    exact ⟨hfault.safe.beside rfl, hfault.same⟩

theorem judgeLimit_kept (h : SafeBehind doors s) : SafeBehind doors (judgeLimit a s) := by
  unfold judgeLimit
  split
  · exact h
  · exact ite_kept (h.axisFault_kept _) h

/-- A drive begins behind an OPEN door. -/
theorem driveToTarget_kept (h : SafeBehind doors s) (hm : MotorsAllowed s) (hdoor : DoorOpenFor s a) :
    SafeBehind doors (driveToTarget a s) := by
  unfold driveToTarget
  split
  · exact (h.modAxis_drives hm rfl hdoor).judgeLimit_kept
  · exact h

theorem beginMove_kept (h : SafeBehind doors s) (hm : MotorsAllowed s) (hu : (s.axis a).drive = none) :
    SafeBehind doors (beginMove a s).1 := by
  unfold beginMove
  split
  · next hguard => exact h.driveToTarget_kept hm (doorOpenFor_of_unguarded hguard)
  · next d hguard =>
    split
    · next hopen => exact h.driveToTarget_kept hm (doorOpenFor_of_guard hguard hopen)
    all_goals dsimp only
    · exact h.modAxis_rests ⟨hu, rfl, nofun⟩
    all_goals exact h.modAxis_waits hm rfl hu

theorem retarget_kept (g : Target) (h : SafeBehind doors s) : SafeBehind doors (retarget g a s) := by
  unfold retarget
  split
  · exact h
  · exact (h.modAxis_goesOn rfl fun hd => by simpa using hd).judgeLimit_kept

/-- A target that is given to an axis, by the rows of R138. -/
theorem giveOne_kept (g : Target) (h : SafeBehind doors s) : SafeBehind doors (giveOne g a s).1 := by
  have hdrop : SafeBehind doors (s.modAxis a (·.refuseTarget g)) := h.modAxis_goesOn rfl id
  have htake : SafeBehind doors (s.modAxis a (·.takeTarget g)) := h.modAxis_goesOn rfl id
  have hhold : SafeBehind doors (s.modAxis a fun r => { r.takeTarget g with held := true }) := h.modAxis_goesOn rfl id
  have hreach : SafeBehind doors (s.modAxis a fun r => (r.takeTarget g).restAtTarget) :=
    h.modAxis_rests (AxisRecord.restAtTarget_rests _)
  unfold giveOne
  dsimp only
  split
  · exact hdrop
  · next hbar =>
    simp only [Bool.or_eq_true, Bool.not_eq_true', not_or, Bool.not_eq_true] at hbar
    obtain ⟨⟨-, hpowered⟩, hunlocked⟩ := hbar
    have hm : MotorsAllowed s := ⟨hpowered, hunlocked⟩
    split
    · exact hdrop
    · exact hdrop
    · split
      · exact hhold
      · exact hdrop
    · exact hhold
    · split_ifs
      · exact hhold
      · exact hreach
      · exact htake
    · exact h.retarget_kept g
    all_goals
      next hstate =>
      have hu : (s.axis a).drive = none := h.safe.axis_undriven (by rw [hstate]; rfl)
      split
      · exact hreach
      · refine (h.modAxis_rests (a := a) (f := fun r => { r.takeTarget g with state := .idle }) ⟨hu, rfl, nofun⟩).beginMove_kept
          (hm.modAxis a _) ?_
        rw [modAxis_axis_self]
        exact hu

end SafeBehind

/-- A drive that is to begin reaches nothing yet. -/
theorem beginMove_not_reached (a : Axis) (s : State) : (beginMove a s).2 ≠ .reached := by
  unfold beginMove
  split
  · nofun
  · split <;> nofun

/-- A target is reached at once only by an axis that comes to rest there (R141). -/
theorem giveOne_reached {g : Target} : (giveOne g a s).2 = .reached → ((giveOne g a s).1.axis a).Rests := by
  have hreach : ((s.modAxis a fun r => (r.takeTarget g).restAtTarget).axis a).Rests := by
    rw [modAxis_axis_self]; exact AxisRecord.restAtTarget_rests _
  unfold giveOne
  dsimp only
  split
  · nofun
  · cases (s.axis a).state with
    | faultOff | lockedOut | homing | moving => nofun
    | unreferenced => dsimp only; split <;> nofun
    | waitDoor =>
      dsimp only
      split_ifs
      · nofun
      · exact fun _ => hreach
      · nofun
    | idle | dwelling =>
      dsimp only
      split
      · exact fun _ => hreach
      · exact fun h => absurd h (beginMove_not_reached a _)

namespace SafeBehind

variable {doors : Vector DoorRecord 8}

/-- A target that is passed on leaves its leader as it is (R146). -/
theorem passOn_kept (g : Target) (a : Axis) (h : SafeBehind doors s) :
    SafeBehind doors (passOn g a s) ∧ (passOn g a s).axis a = s.axis a := by
  refine forEach_keeps (P := fun u => SafeBehind doors u ∧ u.axis a = s.axis a) (fun f u hu => ?_) allAxes s ⟨h, rfl⟩
  obtain ⟨hsafe, haxis⟩ := hu
  split
  · exact ⟨hsafe, haxis⟩
  · next p hp =>
    split
    · next hl => exact ⟨hsafe.giveOne_kept _, (giveOne_axis_ne (hsafe.safe.leader_ne hp hl) _ u).trans haxis⟩
    · exact ⟨hsafe, haxis⟩

/-! ## Pose lists (R142, R143) -/

theorem reportLastStep_kept (a : Axis) (h : SafeBehind doors s) : SafeBehind doors (reportLastStep a s) := ⟨h.safe.beside rfl, h.same⟩

section
variable {next : State → State} (hn : ∀ {u}, (u.axis a).drive = none → SafeBehind doors u → SafeBehind doors (next u))
include hn

/-- The dwell begins at an axis that has stopped. -/
theorem stepReached_kept (hu : (s.axis a).drive = none) (h : SafeBehind doors s) : SafeBehind doors (stepReached next a s) := by
  unfold stepReached
  split
  · exact h
  · next r _ =>
    have hdwell : SafeBehind doors (s.modAxis a fun x => { x with state := .dwelling, dwellEnd := some (s.now + r.dwell * 1000) }) :=
      h.modAxis_rests ⟨hu, rfl, nofun⟩
    have hstop : ((s.modAxis a fun x => { x with state := .dwelling, dwellEnd := some (s.now + r.dwell * 1000) }).axis a).drive = none := by
      rw [modAxis_axis_self]; exact hu
    dsimp only
    split_ifs
    · exact hn hstop (hdwell.reportLastStep_kept a)
    · exact hn hstop hdwell
    · exact hdwell.reportLastStep_kept a
    · exact hdwell

theorem giveWith_kept (g : Target) (h : SafeBehind doors s) : SafeBehind doors (giveWith next g a s) := by
  have hone := h.giveOne_kept (a := a) g
  obtain ⟨hpass, haxis⟩ := hone.passOn_kept g a
  unfold giveWith
  dsimp only
  split
  · next hreached =>
    have hnot : (giveOne g a s).2 ≠ .dropped := by rw [hreached.1]; nofun
    rw [if_neg hnot]
    exact stepReached_kept hn (by rw [haxis]; exact (giveOne_reached hreached.1).undriven) hpass
  · exact ite_kept hone hpass

theorem giveStep_kept (h : SafeBehind doors s) : SafeBehind doors (giveStep next a s) := by
  unfold giveStep
  split
  · exact giveWith_kept hn _ h
  · exact h

end

theorem dwellNext_kept : ∀ (fuel : Nat) {s : State}, (s.axis a).drive = none → SafeBehind doors s → SafeBehind doors (dwellNext fuel a s)
  | 0, _, _, h => h
  | fuel + 1, s, hu, h => by
    have hrunner : ∀ f : Runner, SafeBehind doors (s.modAxis a fun x => { x with runner := some f }) := fun _ => h.modAxis_goesOn rfl id
    have hend : SafeBehind doors (s.modAxis a (·.endRunner)) := h.modAxis_rests (AxisRecord.endRunner_rests hu)
    unfold dwellNext
    split
    · exact h
    · split_ifs
      · exact giveWith_kept (next := id) (fun _ h => h) _ hend
      · exact giveStep_kept (dwellNext_kept fuel) (hrunner _)
      · exact giveStep_kept (dwellNext_kept fuel) (hrunner _)
      · exact hend

theorem give_kept (g : Target) (a : Axis) (h : SafeBehind doors s) : SafeBehind doors (give g a s) :=
  giveWith_kept (dwellNext_kept listFuel) g h

theorem startList_kept (id : Nat) (l : PoseList) (a : Axis) (h : SafeBehind doors s) : SafeBehind doors (startList id l a s) :=
  giveStep_kept (dwellNext_kept listFuel) (h.modAxis_goesOn rfl fun hd => hd)

theorem sendHomeAfterStep_kept (a : Axis) (h : SafeBehind doors s) : SafeBehind doors (sendHomeAfterStep a s) := by
  unfold sendHomeAfterStep
  split
  · exact h.modAxis_goesOn rfl id
  · exact h.give_kept _ a

/-! ## Homing (R139, R140) -/

theorem endHoming_kept (a : Axis) (h : SafeBehind doors s) : SafeBehind doors (endHoming a s) := by
  have hhome : SafeBehind doors (s.modAxis a (·.atHome)) := h.modAxis_rests (AxisRecord.atHome_rests _)
  unfold endHoming takeHeld
  split
  · exact hhome
  · exact ite_kept ((hhome.modAxis_goesOn rfl id).give_kept _ a) hhome

/-- A homing drive begins behind an OPEN door. -/
theorem beginHomingDrive_kept (h : SafeBehind doors s) (hm : MotorsAllowed s) (hdoor : DoorOpenFor s a) :
    SafeBehind doors (beginHomingDrive a s) := by
  unfold beginHomingDrive
  split
  · exact h
  · exact h.modAxis_drives hm rfl hdoor

theorem beginHoming_kept (h : SafeBehind doors s) (hmay : mayHome s a = true) : SafeBehind doors (beginHoming a s) := by
  simp only [mayHome, Bool.and_eq_true, beq_iff_eq, Bool.not_eq_true'] at hmay
  obtain ⟨⟨⟨⟨-, hstate⟩, -⟩, hunlocked⟩, hpowered⟩ := hmay
  have hm : MotorsAllowed s := ⟨hpowered, hunlocked⟩
  unfold beginHoming
  split
  · exact h.endHoming_kept a
  · split
    · next hguard => exact h.beginHomingDrive_kept hm (doorOpenFor_of_unguarded hguard)
    · next d hguard =>
      split
      · next hopen => exact h.beginHomingDrive_kept hm (doorOpenFor_of_guard hguard hopen)
      · exact h.modAxis_waits hm rfl (h.safe.axis_undriven (by rw [hstate]; rfl))

theorem requestHome_kept (a : Axis) (h : SafeBehind doors s) : SafeBehind doors (requestHome a s) := by
  unfold requestHome
  refine ite_kept ?_ h
  by_cases hstate : (s.axis a).state = .homing
  · exact h.modAxis_goesOn (by rw [AxisRecord.requestHome, if_pos hstate]) (by rw [AxisRecord.requestHome, if_pos hstate]; exact id)
  · exact h.modAxis_rests (by rw [AxisRecord.requestHome, if_neg hstate]; exact AxisRecord.giveHome_rests _)

/-- An axis that waits for its door starts once the door is OPEN (R164). -/
theorem startWaiter_kept (h : SafeBehind doors s) (hdoor : DoorOpenFor s a) : SafeBehind doors (startWaiter a s) := by
  unfold startWaiter
  split
  · next hwait =>
    have hm : MotorsAllowed s := h.safe.allowed_of_axis fun hr => hr.ready hwait
    exact ite_kept (ite_kept (h.endHoming_kept a) (h.beginHomingDrive_kept hm hdoor)) (h.driveToTarget_kept hm hdoor)
  · exact h

/-! ## Counts (R136, R137) -/

theorem arrive_kept (g : Target) (a : Axis) (h : SafeBehind doors s) : SafeBehind doors (arrive g a s) := by
  have hrest : SafeBehind doors (s.modAxis a fun r => { r.restAtTarget with faultCount := 0 }) := h.modAxis_rests ⟨rfl, rfl, nofun⟩
  unfold arrive
  exact ite_kept (stepReached_kept (dwellNext_kept listFuel) (by rw [modAxis_axis_self]; rfl) hrest) hrest

theorem countAxis_kept (a : Axis) (h : SafeBehind doors s) : SafeBehind doors (countAxis a s) := by
  unfold countAxis
  split
  · next d _ hd =>
    refine ite_kept h ?_
    have hcount : SafeBehind doors (s.modAxis a fun r => { r with drive := some { d with stallFrom := s.now } }) :=
      h.modAxis_goesOn rfl fun _ => by rw [hd]; rfl
    dsimp only
    split
    · exact ite_kept ((hcount.modAxis_goesOn rfl id).arrive_kept _ a)
        ((hcount.modAxis_goesOn rfl id).modAxis_goesOn rfl fun _ => by simp)
    · exact hcount
  · exact h

end SafeBehind

end Sys2Proof.Machine
end

section
/-! SUPPORT. The doors' operations keep the Motion Unit safe, in the order of Machine/Doors.lean; and so do the halt, the park, and what
follows at once in the Motion Unit (R157 to R166, R174). -/

namespace Sys2Proof.Machine

variable {s t : State} {d : Axis}

/-! ## What a judgment says (R159) -/

theorem doorMayDrive_allows (h : doorMayDrive s d = true) : MotorsAllowed s := by
  simp only [doorMayDrive, Bool.and_eq_true, Bool.not_eq_true'] at h
  obtain ⟨⟨⟨-, hunlocked⟩, hpowered⟩, -⟩ := h
  exact ⟨hpowered, hunlocked⟩

/-- A door that is clear for closing has no guarded axis that drives. -/
theorem guardedStand_of_clear (h : clearForClosing s d = true) : GuardedStand s d := fun a hg => by
  have ha := List.all_eq_true.mp h a (mem_allAxes a)
  simp only [hg, Bool.not_true, Bool.false_or, Bool.and_eq_true, beq_iff_eq] at ha
  rw [ha.1]; rfl

theorem doorAction_moves (h : doorAction s d = .opening ∨ doorAction s d = .closing) : MotorsAllowed s := by
  refine doorMayDrive_allows (d := d) (Bool.of_not_eq_false fun hn => ?_)
  have hstay : doorAction s d = .stay := by simp [doorAction, hn]
  rcases h with h | h <;> cases hstay.symm.trans h

/-- A door that is to open is not OPEN. -/
theorem doorAction_opening (h : doorAction s d = .opening) : (s.door d).state ≠ .open := by
  intro hopen
  simp only [doorAction, hopen] at h
  split_ifs at h

/-- A door that is to close is clear. -/
theorem doorAction_closing (h : doorAction s d = .closing) : clearForClosing s d = true := by
  unfold doorAction at h
  refine Bool.of_not_eq_false fun hn => ?_
  simp only [hn, Bool.false_eq_true, if_false] at h
  revert h
  cases (s.door d).state <;> split_ifs <;> nofun

/-- The axis members are all that follow (R158). -/
theorem syncMembers_gives (d : Axis) (s : State) :
    ∃ f : DoorRecord → DoorRecord, syncMembers d s = s.modDoor d f ∧ ∀ r, (f r).state = r.state ∧ (f r).drive = r.drive := by
  unfold syncMembers
  split <;> exact ⟨_, rfl, fun _ => ⟨rfl, rfl⟩⟩

/-! ## Travel (R160) -/

namespace MotionSafe

theorem raise_kept (k : Kind) (h : MotionSafe s) : MotionSafe (raise k s) := h.beside rfl

theorem syncMembers_kept (d : Axis) (h : MotionSafe s) : MotionSafe (syncMembers d s) := by
  obtain ⟨f, he, hf⟩ := syncMembers_gives d s
  obtain ⟨hstate, hdrive⟩ := hf (s.door d)
  rw [he]
  exact h.modDoor_goesOn hstate fun hd => by rwa [hdrive] at hd

/-- As a door enters OPEN, each axis that waits on it starts behind it. -/
theorem enterOpen_kept (d : Axis) (h : MotionSafe s) : MotionSafe (enterOpen d s) := by
  have hopen : MotionSafe (s.modDoor d (·.stand .open)) := h.modDoor_rests ⟨rfl, rfl⟩ (.inl rfl)
  have hdoor : ((s.modDoor d (·.stand .open)).door d).state = .open := by rw [modDoor_door_self]; rfl
  refine (forGuarded_keeps (P := SafeBehind (s.modDoor d (·.stand .open)).mu.doors) (fun a u hg hu => ?_) hopen.behind).safe
  refine hu.startWaiter_kept (doorOpenFor_of_guard (isGuarded_iff.mp hg).2 ?_)
  rw [State.door, hu.same]
  exact hdoor

theorem enterOpening_kept (hm : MotorsAllowed s) (hd : GuardedStand s d) (h : MotionSafe s) : MotionSafe (enterOpening d s) := by
  unfold enterOpening
  exact ite_kept (h.enterOpen_kept d) (h.modDoor_travels hm rfl hd)

theorem enterClosed_kept (hd : GuardedStand s d) (h : MotionSafe s) : MotionSafe (enterClosed d s) :=
  h.modDoor_rests ⟨rfl, rfl⟩ (.inr hd)

theorem enterClosing_kept (hm : MotorsAllowed s) (hd : GuardedStand s d) (h : MotionSafe s) : MotionSafe (enterClosing d s) := by
  unfold enterClosing
  exact ite_kept (h.enterClosed_kept hd) (h.modDoor_travels hm rfl hd)

theorem judgeDoor_kept (d : Axis) (h : MotionSafe s) : MotionSafe (judgeDoor d s) := by
  unfold judgeDoor
  split
  · exact h
  · next ha => exact h.enterOpening_kept (doorAction_moves (.inl ha)) (h.guardedStand (doorAction_opening ha))
  · next ha => exact h.enterClosing_kept (doorAction_moves (.inr ha)) (guardedStand_of_clear (doorAction_closing ha))
  · exact h.modDoor_goesOn rfl id

theorem demandDoors_kept (set : AxisSet) {f : DoorRecord → DoorRecord} (hf : ∀ r, (f r).state = r.state ∧ (f r).drive = r.drive)
    (h : MotionSafe s) : MotionSafe (demandDoors set f s) :=
  demandDoors_keeps (P := MotionSafe)
    (fun d _ hu => ((hu.syncMembers_kept d).modDoor_goesOn (hf _).1 fun hd => by rwa [(hf _).2] at hd).judgeDoor_kept d) h

end MotionSafe

/-! ## Faults and release (R161 to R163, R165) -/

/-- The guard's fault leaves no axis driving (R165). -/
theorem AxisRecord.guardLost_stands (r : AxisRecord) : r.guardLost.state.drives = false := by
  unfold AxisRecord.guardLost
  cases h : r.state with
  | moving | homing => rfl
  | unreferenced | idle | dwelling | faultOff | lockedOut => simp only [h]; rfl
  | waitDoor =>
    dsimp only
    split
    · rw [h]; rfl
    · rfl

/-- An axis at rest knows nothing of its guard's fault. -/
theorem AxisRecord.Rests.guardLost_eq {r : AxisRecord} (h : r.Rests) : r.guardLost = r := by
  unfold AxisRecord.guardLost
  have hstands := h.stands
  have hready := h.ready
  cases hstate : r.state with
  | moving | homing => rw [hstate] at hstands; cases hstands
  | waitDoor => exact absurd hstate hready
  | unreferenced | idle | dwelling | faultOff | lockedOut => rfl

/-- A guarded axis whose door faults: a homing axis waits again, any other comes to rest or stays (R165). -/
theorem MotionSafe.guardLost_kept (h : MotionSafe s) (a : Axis) : MotionSafe (s.modAxis a (·.guardLost)) := by
  by_cases hr : (s.axis a).Rests
  · exact h.modAxis_rests (by rw [hr.guardLost_eq]; exact hr)
  have hm := h.allowed_of_axis hr
  refine h.modAxis (fun hd => ?_) (fun hs => absurd hs hm.not_still) fun hd => ?_
  · have hnone : (s.axis a).guardLost.drive = none := by
      cases hdrives : (s.axis a).state.drives with
      | false => exact AxisRecord.guardLost_drive (h.axis_undriven hdrives)
      | true =>
        unfold AxisRecord.guardLost
        cases hstate : (s.axis a).state <;> rw [hstate] at hdrives
        case moving | homing => rfl
        all_goals cases hdrives
    rw [hnone] at hd; cases hd
  · rw [AxisRecord.guardLost_stands] at hd; cases hd

/-- Updates of the axes and of a door do not meet. -/
theorem forGuarded_modDoor (x : Axis) (g : AxisRecord → AxisRecord) (f : DoorRecord → DoorRecord) (s : State) :
    forGuarded x (fun a u => u.modAxis a g) (s.modDoor d f) = (forGuarded x (fun a u => u.modAxis a g) s).modDoor d f := by
  unfold forGuarded
  generalize allAxes = l
  induction l generalizing s with
  | nil => rfl
  | cons a l ih =>
    rw [forEach, forEach, ← ih]
    congr 1
    rw [apply_ite (State.modDoor · d f)]
    rfl

/-- The guarded axes of a door that faults stand once they are treated (R165). -/
theorem guardLost_guardedStand (d : Axis) (s : State) : GuardedStand (forGuarded d (fun a s => s.modAxis a (·.guardLost)) s) d := by
  intro a
  refine forEach_reaches (Q := fun a u => u.isGuarded d a = true → (u.axis a).state.drives = false)
    (f := fun a u => if u.isGuarded d a then u.modAxis a (·.guardLost) else u) (fun x u => ?_) (fun x y u hu => ?_) (mem_allAxes a) s
  · split
    · rw [modAxis_axis_self]; exact fun _ => AxisRecord.guardLost_stands _
    · next hg => exact fun hg' => absurd hg' hg
  · split
    · rw [modAxis_axis]
      split
      · exact fun _ => AxisRecord.guardLost_stands _
      · exact hu
    · exact hu

namespace MotionSafe

theorem doorFault_kept (k : DoorFaultKind) (trip : Option Nat) (d : Axis) (h : MotionSafe s) : MotionSafe (doorFault k trip d s) := by
  have haxes : MotionSafe (forGuarded d (fun a s => s.modAxis a (·.guardLost)) s) :=
    forGuarded_keeps (P := MotionSafe) (f := fun a s => s.modAxis a (·.guardLost)) (fun a _ _ hu => hu.guardLost_kept a) h
  unfold doorFault
  refine raise_kept _ ?_
  rw [forGuarded_modDoor]
  exact haxes.modDoor_rests ⟨rfl, rfl⟩ (.inr (guardLost_guardedStand d s))

theorem countedFault_kept (k : DoorFaultKind) (trip : Option Nat) (d : Axis) (h : MotionSafe s) :
    MotionSafe (countDoorFault d (doorFault k trip d s)) := (h.doorFault_kept k trip d).modDoor_goesOn rfl id

theorem doorOverCurrent_kept (d : Axis) (h : MotionSafe s) : MotionSafe (doorOverCurrent d s) := by
  unfold doorOverCurrent
  split
  · exact h
  · exact ite_kept ((h.countedFault_kept _ _ d).modDoor_goesOn rfl id) (h.countedFault_kept _ _ d)

theorem releaseDoor_kept (hm : MotorsAllowed s) (hd : (s.door d).state = .fault) (h : MotionSafe s) : MotionSafe (releaseDoor d s) := by
  have hstand : GuardedStand s d := h.guardedStand (by rw [hd]; nofun)
  have hdemand : MotionSafe (s.modDoor d fun r =>
      { r with release := false, close := if !r.wanted && r.close.isNone then some .door else r.close }) := h.modDoor_goesOn rfl id
  unfold releaseDoor
  exact ite_kept (hdemand.enterOpening_kept ⟨hm.powered, hm.unlocked⟩ hstand) (hdemand.enterClosing_kept ⟨hm.powered, hm.unlocked⟩ hstand)

/-! ## What follows at once, and parks -/

theorem motionPass_kept (h : MotionSafe s) : MotionSafe (motionPass s) := by
  have hmembers := forEach_keeps (P := MotionSafe) (f := syncMembers) (fun d _ hu => hu.syncMembers_kept d) allAxes s h
  have hhoming := forEach_keeps (P := MotionSafe) (f := fun a s => if mayHome s a then beginHoming a s else s)
    (fun a u hu => by
      split
      · next hmay => exact (hu.behind.beginHoming_kept hmay).safe
      · exact hu) allAxes _ hmembers
  have hrelease := forEach_keeps (P := MotionSafe) (f := fun d s => if mayRelease s d then releaseDoor d (syncMembers d s) else s)
    (fun d u hu => by
      split
      · next hmay =>
        simp only [mayRelease, Bool.and_eq_true, beq_iff_eq, Bool.not_eq_true'] at hmay
        obtain ⟨⟨⟨⟨-, hfault⟩, -⟩, hunlocked⟩, hpowered⟩ := hmay
        obtain ⟨f, he, hf⟩ := syncMembers_gives d u
        have hmembers := hu.syncMembers_kept d
        rw [he] at hmembers ⊢
        refine hmembers.releaseDoor_kept ⟨hpowered, hunlocked⟩ ?_
        rw [modDoor_door_self, (hf _).1]
        exact hfault
      · exact hu) allAxes _ hhoming
  unfold motionPass
  exact forEach_keeps (P := MotionSafe) (fun d _ hu => (hu.syncMembers_kept d).judgeDoor_kept d) allAxes _ hrelease

theorem settleMotion_kept (h : MotionSafe s) : MotionSafe (settleMotion s) :=
  settleMotionFor_keeps (P := MotionSafe) (fun _ => motionPass_kept) 16 s h

theorem park_kept (h : MotionSafe s) : MotionSafe (park s) := by
  have hfigures : MotionSafe (forFigures (give homeTarget) s) :=
    forFigures_keeps (P := MotionSafe) (fun a _ _ hu => (hu.behind.give_kept _ a).safe) h
  exact hfigures.demandDoors_kept _ fun _ => ⟨rfl, rfl⟩

end MotionSafe

end Sys2Proof.Machine
end

section
/-! SUPPORT. The Schedule Unit, the Library Unit, the Performance Engine and the presentation state keep the Motion Unit safe: they reach it through demands, cues and
the coda's requests alone, the working profile changes only where a walk ends, and only what a walk validates may become it (R50, R51). -/

namespace Sys2Proof.Machine

variable {s u : State}

/-- A profile without a failed check fails no row (R50). -/
theorem firstFailure_none {bytes : List Byte} {p : Profile} : ∀ {rows : List Nat}, firstFailure bytes p rows = none →
    ∀ row ∈ rows, rowFailure bytes p row = none
  | [], _, _, hrow => absurd hrow List.not_mem_nil
  | row :: rest, h, x, hx => by
    unfold firstFailure at h
    split at h
    · cases h
    · next hrow =>
      rcases List.mem_cons.mp hx with rfl | hx
      · exact hrow
      · exact firstFailure_none h x hx

/-- A row that no scope fails holds of every present axis. -/
theorem axisCheck_of_rowFailure {bytes : List Byte} {p : Profile} {row : Nat} (h : rowFailure bytes p row = none) {a : Axis}
    (ha : p.axesPresent.getLsbD a.val = true) : axisCheck row bytes p a = true := by
  unfold rowFailure at h
  split at h
  · cases h
  · split at h
    · cases h
    · have hnone := List.find?_eq_none.mp (Option.map_eq_none_iff.mp h) a (mem_allAxes a)
      simpa [ha] using hnone

theorem val_of_axisOf {n : Nat} {a : Axis} (h : axisOf n = some a) : n = a.val := by
  unfold axisOf at h
  split at h
  · cases h; rfl
  · cases h

/-- No present axis leads itself in a profile that passes row 13 of R50. -/
theorem leadersApart_of_checked {bytes : List Byte} (h : firstFailure bytes (profileAt bytes) profileRows = none) :
    Profile.LeadersApart (profileAt bytes) := by
  intro a ha hleader
  have hcheck := axisCheck_of_rowFailure (firstFailure_none h 13 (by decide)) ha
  have hentry : axisOf (byteAt bytes (axisOffset a.val + 46)) = some a := by
    simpa [profileAt, axisEntryAt] using hleader
  have hbyte := val_of_axisOf hentry
  simp only [axisCheck, hbyte, Bool.or_eq_true, Bool.and_eq_true, beq_iff_eq, bne_self_eq_false, Bool.false_eq_true, false_and, and_false,
    or_false] at hcheck
  omega

/-- The arbiter's grant touches the port and the prefetch reads alone (R42). -/
theorem grant_gives (u : LibraryUnit) : ∃ port reads, u.grant = { u with port := port, prefetch := reads } := by
  unfold LibraryUnit.grant
  split
  · exact ⟨_, _, rfl⟩
  · split
    · exact ⟨_, _, rfl⟩
    · split
      · exact ⟨_, _, rfl⟩
      · split
        · exact ⟨_, _, rfl⟩
        · exact ⟨_, _, rfl⟩

namespace MotionSafe

/-! ## The Schedule Unit -/

theorem postRequest_kept (r : ShowRequest) (h : MotionSafe s) : MotionSafe (postRequest r s) := by
  obtain ⟨-, he⟩ | ⟨q, -, he⟩ | he := postRequest_cases r s <;> rw [he] <;> exact h.beside rfl

theorem judgeTrigger_kept (t : Nat) (old : Bool) (h : MotionSafe s) : MotionSafe (judgeTrigger t old s) := by
  unfold judgeTrigger
  split
  · exact h
  · refine ite_kept (h.beside rfl) ?_
    split
    · exact h.beside rfl
    · exact ite_kept (h.beside rfl) (ite_kept (h.beside rfl) (h.postRequest_kept _))

theorem setRecord_kept (r : TriggerRecord) (h : MotionSafe s) : MotionSafe (setRecord r s) := h.beside rfl

theorem skipPassed_kept (c : Option Nat) : ∀ (n t : Nat) {s : State}, MotionSafe s → MotionSafe (skipPassed c n t s)
  | 0, _, _, h => h
  | n + 1, t, _, h => skipPassed_kept c n (t + 1) (ite_kept h (h.beside rfl))

theorem catchUp_kept (before after : Nat) (h : MotionSafe s) : MotionSafe (catchUp before after s) := by
  unfold catchUp
  refine ite_kept h ?_
  dsimp only
  split
  · exact (skipPassed_kept _ _ _ h).setRecord_kept _
  · exact ((skipPassed_kept _ _ _ h).judgeTrigger_kept _ _).setRecord_kept _

theorem stepBack_kept (after : Nat) (h : MotionSafe s) : MotionSafe (stepBack after s) := by
  unfold stepBack
  split
  · exact h
  · exact ite_kept (h.setRecord_kept _) h

theorem scheduleStep_kept (before after : Nat) (wasSet : Bool) (src : StepSource) (h : MotionSafe s) :
    MotionSafe (scheduleStep before after wasSet src s) := by
  have he : MotionSafe (evaluateSeason s) := h.beside rfl
  unfold scheduleStep
  dsimp only
  split
  · exact ite_kept (he.catchUp_kept _ _) (ite_kept (he.stepBack_kept _) he)
  · cases src with
    | host => exact he.setRecord_kept _
    | pps => exact he

theorem applyStep_kept (delta : Int) (src : StepSource) (h : MotionSafe s) : MotionSafe (applyStep delta src s) :=
  scheduleStep_kept _ _ _ _ (h.beside rfl)

theorem applyPending_kept (h : MotionSafe s) : MotionSafe (applyPending s) := by
  unfold applyPending
  split
  · exact h
  · exact applyStep_kept _ _ (h.beside rfl)

theorem flushQueue_kept (h : MotionSafe s) : MotionSafe (flushQueue s) :=
  (forEach_keeps (P := MotionSafe) (f := fun _ => countSuppressed) (fun _ _ hu => hu.beside rfl) s.su.queue s h).beside rfl

/-! ## The Library Unit -/

/-- A change of the Library Unit beside the directory state, the working profile and the walk. -/
theorem modLu_kept {f : LibraryUnit → LibraryUnit}
    (hf : ((f s.lu).profile, (f s.lu).dirState, (f s.lu).walk) = (s.lu.profile, s.lu.dirState, s.lu.walk)) (h : MotionSafe s) : MotionSafe (s.modLu f) := by
  simp only [Prod.mk.injEq] at hf
  exact h.beside (by simp [hf])

theorem grantPort_kept (h : MotionSafe s) : MotionSafe (grantPort s) := by
  obtain ⟨_, _, he⟩ := grant_gives s.lu
  exact h.modLu_kept (by rw [he])

theorem takeStoreOp_kept (o : StoreOp) (h : MotionSafe s) : MotionSafe (takeStoreOp o s) := by
  obtain ⟨_, _, he⟩ := grant_gives { s.lu with storeOp := some o, storeResult := none }
  exact h.modLu_kept (by rw [he])

theorem freePort_kept (h : MotionSafe s) : MotionSafe (freePort s) := h.beside rfl

theorem modSu_kept (f : ScheduleUnit → ScheduleUnit) (h : MotionSafe s) : MotionSafe (s.modSu f) := h.beside rfl

theorem modReport_kept (f : WalkReport → WalkReport) (h : MotionSafe s) : MotionSafe (modReport f s) := h.beside rfl

/-- A walk goes on with what it has validated, or with a profile whose leaders are apart. -/
theorem modWalk_kept (h : MotionSafe s) {f : Walk → Walk}
    (hf : ∀ w p, s.lu.walk = some w → (f w).install = some (some p) → w.install = some (some p) ∨ Profile.LeadersApart p) :
    MotionSafe (modWalk f s) where
  axisDrive := h.axisDrive
  doorDrive := h.doorDrive
  still := h.still
  walkLocked hw := h.walkLocked (by simpa [modWalk] using hw)
  interlock := h.interlock
  leaders := h.leaders
  validated v p hw hp := by
    obtain ⟨w, hwalk, rfl⟩ := Option.map_eq_some_iff.mp hw
    obtain hold | hnew := hf w p hwalk hp
    · exact h.validated w p hwalk hold
    · exact hnew

theorem setPhase_kept (ph : WalkPhase) (h : MotionSafe s) : MotionSafe (modWalk (fun w => { w with phase := ph }) s) :=
  h.modWalk_kept fun _ _ _ => .inl

/-- The INSTALL record's outcome: a profile that passes every check has its leaders apart. -/
theorem useInstall_kept (r : RecordHeader) (p : List Byte) (h : MotionSafe s) : MotionSafe (useInstall r p s) := by
  unfold useInstall
  refine ite_kept (h.modReport_kept _) ((h.modReport_kept _).modWalk_kept fun w q _ hq => .inr ?_)
  simp only [Option.some.injEq, Option.ite_none_right_eq_some, Bool.and_eq_true, decide_eq_true_eq, Option.isNone_iff_eq_none] at hq
  obtain ⟨⟨hlen, hchecked⟩, rfl⟩ := hq
  rw [if_pos hlen] at hchecked
  exact leadersApart_of_checked hchecked

theorem useRecord_kept (r : RecordHeader) (p : List Byte) (h : MotionSafe s) : MotionSafe (useRecord r p s) := by
  unfold useRecord
  split
  · exact h.useInstall_kept r p
  · exact ite_kept (h.beside rfl) (ite_kept (h.beside rfl) (h.beside rfl))
  · exact ite_kept (h.beside rfl) (ite_kept (h.beside rfl) (h.beside rfl))
  · exact ite_kept (h.beside rfl) (ite_kept (h.beside rfl) ((h.modReport_kept _).modWalk_kept fun _ _ _ => .inl))
  · exact ite_kept (h.beside rfl) (ite_kept (h.beside rfl) ((h.modReport_kept _).modWalk_kept fun _ _ _ => .inl))
  · exact h
  · exact h.beside rfl

theorem followPointer_kept (current next : Nat) (h : MotionSafe s) : MotionSafe (followPointer current next s).1 := by
  unfold followPointer
  split
  · exact h
  · exact h.setPhase_kept _

theorem walkStep_kept (ph : WalkPhase) (data : List Byte) (h : MotionSafe s) : MotionSafe (walkStep ph data s).1 := by
  unfold walkStep visitRecord readRecord
  dsimp only
  split
  · split <;> exact h.setPhase_kept _
  · split
    · exact h.followPointer_kept _ _
    · exact h
  · split
    · exact followPointer_kept _ _ (h.beside rfl)
    · exact (h.modReport_kept _).setPhase_kept _
  · split_ifs
    · exact h.setPhase_kept _
    · exact (h.useRecord_kept _ _).followPointer_kept _ _
    · exact followPointer_kept _ _ (h.beside rfl)

theorem loadSeasons_kept (p : List Byte) (h : MotionSafe s) : MotionSafe (loadSeasons p s) := by
  unfold loadSeasons
  exact modReport_kept _ (modSu_kept _ h)

theorem loadProgrammes_kept (p : List Byte) (h : MotionSafe s) : MotionSafe (loadProgrammes p s) := by
  unfold loadProgrammes
  exact modReport_kept _ (modSu_kept _ h)

theorem loadTables_kept (w : Walk) (h : MotionSafe s) : MotionSafe (loadTables w s) := by
  have hseasons : MotionSafe (match w.seasonsBody with | some p => loadSeasons p s | none => s) := by
    split
    · exact h.loadSeasons_kept _
    · exact h
  unfold loadTables
  refine MotionSafe.beside (s := match w.programmesBody with | some p => loadProgrammes p _ | none => _) ?_ rfl
  split
  · exact hseasons.loadProgrammes_kept _
  · exact hseasons

theorem holdResult_kept (o : StoreOp) (out : StoreOutcome) (data : List Byte) (h : MotionSafe s) : MotionSafe (holdResult o out data s) :=
  h.beside rfl

theorem setStorePhase_kept (ph : StorePhase) (h : MotionSafe s) : MotionSafe (setStorePhase ph s) := h.beside rfl

/-! ## Prefetch, the queue's head and the triggers -/

theorem requestReadsFor_kept : ∀ (fuel : Nat) {s : State}, MotionSafe s → MotionSafe (requestReadsFor fuel s)
  | 0, _, h => h
  | fuel + 1, s, h => by
    unfold requestReadsFor
    split
    · exact h
    · exact requestReadsFor_kept fuel (h.beside rfl)

theorem requestReads_kept (h : MotionSafe s) : MotionSafe (requestReads s) := (requestReadsFor_kept 16 h).grantPort_kept

theorem takeRequest_kept (r : ShowRequest) (e : DirEntry) (h : MotionSafe s) : MotionSafe (takeRequest r e s) :=
  demandDoors_kept _ (fun _ => ⟨rfl, rfl⟩) (requestReads_kept (h.beside rfl))

theorem examineHeads_kept : ∀ (l : List ShowRequest) {s : State}, MotionSafe s → MotionSafe (examineHeads l s)
  | [], _, h => h.beside rfl
  | r :: rest, s, h => by
    unfold examineHeads
    refine ite_kept (examineHeads_kept rest (h.beside rfl)) ?_
    split
    · exact examineHeads_kept rest (h.beside rfl)
    · exact ite_kept (examineHeads_kept rest (h.beside rfl)) (ite_kept (h.beside rfl) (takeRequest_kept _ _ (h.beside rfl)))

theorem examineQueue_kept (h : MotionSafe s) : MotionSafe (examineQueue s) := ite_kept (examineHeads_kept _ h) h

theorem examineNewHead_kept (before : State) (h : MotionSafe s) : MotionSafe (examineNewHead before s) := ite_kept h h.examineQueue_kept

theorem nextTriggerHandled_kept (h : MotionSafe s) : MotionSafe (nextTriggerHandled s) := by
  obtain he | ⟨t, -, -, he⟩ := nextTriggerHandled_cases s <;> rw [he]
  · exact h
  · exact ((h.judgeTrigger_kept t false).setRecord_kept _).examineNewHead_kept s

theorem recomputeTrigger_kept (h : MotionSafe s) : MotionSafe (recomputeTrigger s) :=
  recomputeTrigger_keeps (P := MotionSafe) (fun _ hu => hu.nextTriggerHandled_kept) h

/-! ## The Performance Engine: the score -/

theorem strikeEvent_kept (bell velocity : Nat) (h : MotionSafe s) : MotionSafe (strikeEvent bell velocity s) := by
  unfold strikeEvent
  refine ite_kept h ?_
  split
  · exact h.beside rfl
  · exact ite_kept (h.strikes (strikeArrives_onlyStrikes _ (.refl s))) (h.beside rfl)

theorem dampEvent_kept (bell : Nat) (h : MotionSafe s) : MotionSafe (dampEvent bell s) := by
  unfold dampEvent
  split
  · exact h.beside rfl
  · exact ite_kept (h.strikes (dampCommand_onlyStrikes _ (.refl s))) (h.beside rfl)

/-- A cue is the score's way to the axes (R68). -/
theorem cueEvent_kept (axis : Nat) (isList : Bool) (number : Nat) (h : MotionSafe s) : MotionSafe (cueEvent axis isList number s) := by
  unfold cueEvent
  refine ite_kept h ?_
  split
  · exact h.beside rfl
  · next a _ =>
    refine ite_kept (h.beside rfl) (settleMotion_kept (ite_kept ?_ (h.behind.give_kept _ a).safe))
    split
    · exact (h.behind.startList_kept _ _ a).safe
    · exact h

theorem waitEvent_kept (axis seconds : Nat) (h : MotionSafe s) : MotionSafe (waitEvent axis seconds s) := by
  unfold waitEvent
  split
  · exact h
  · exact ite_kept h (ite_kept (h.beside rfl) (h.beside rfl))

/-- The coda asks the axes home and the doors to close (R76). -/
theorem enterCoda_kept (r : PerfResult) (h : MotionSafe s) : MotionSafe (enterCoda r s) := by
  unfold enterCoda
  refine demandDoors_kept _ (fun _ => ⟨rfl, rfl⟩) (forEach_keeps (P := MotionSafe) (fun a u hu => ?_) allAxes _ (h.beside rfl))
  exact ite_kept (hu.behind.sendHomeAfterStep_kept a).safe hu

/-- The end of an event that is no loop mark (R66, R73). -/
theorem passed_kept (i : Nat) (h : MotionSafe s) : MotionSafe (abandonRetention (passEvent i s)) := by
  unfold abandonRetention
  split
  · exact h.beside rfl
  · exact ite_kept (h.beside rfl) (h.beside rfl)

theorem countEnd_kept (l : LoopRecord) (h : MotionSafe s) : MotionSafe (countEnd l s) :=
  ite_kept (h.beside rfl) (ite_kept (h.beside rfl) (h.beside rfl))

theorem carryOut_kept (i : Nat) (ev : Event) (hc : carryOut i ev s = some u) (h : MotionSafe s) : MotionSafe u := by
  unfold carryOut at hc
  cases ev with
  | strike => cases hc; exact (h.strikeEvent_kept _ _).passed_kept i
  | damp => cases hc; exact (h.dampEvent_kept _).passed_kept i
  | tempo | ramp =>
    dsimp only at hc
    split at hc
    · cases hc
    · cases hc; exact passed_kept i (h.beside rfl)
  | cue => cases hc; exact (h.cueEvent_kept _ _ _).passed_kept i
  | waitAxis => cases hc; exact (h.waitEvent_kept _ _).passed_kept i
  | countBegin =>
    dsimp only at hc
    split at hc
    · cases hc
    · cases hc; exact h.beside rfl
  | countEnd =>
    dsimp only at hc
    split at hc
    · cases hc
    · cases hc; exact countEnd_kept _ (h.beside rfl)
  | mark => cases hc; exact passed_kept i (h.beside rfl)
  | finish =>
    dsimp only at hc
    split at hc
    · cases hc
    · cases hc; exact enterCoda_kept _ (h.beside rfl)
  | unknown => cases hc

theorem scoreError_kept (h : MotionSafe s) : MotionSafe (scoreError s) := enterCoda_kept _ (h.beside rfl)

theorem runEventsFor_kept : ∀ (fuel : Nat) {s : State}, MotionSafe s → MotionSafe (runEventsFor fuel s)
  | 0, _, h => h
  | fuel + 1, s, h => by
    unfold runEventsFor
    refine ite_kept (ite_kept (ite_kept h.scoreError_kept (h.enterCoda_kept _)) ?_) h
    split
    · exact h.beside rfl
    · refine ite_kept (h.beside rfl) ?_
      split
      · exact h.scoreError_kept
      · next hc =>
        have hu := h.carryOut_kept _ _ hc
        exact runEventsFor_kept fuel (ite_kept hu.requestReads_kept hu)

theorem runEvents_kept (h : MotionSafe s) : MotionSafe (runEvents s) := runEventsFor_kept 4096 h

theorem releaseHold_kept (h : MotionSafe s) : MotionSafe (releaseHold s) := runEvents_kept (h.beside rfl)

theorem startPlaying_kept (h : MotionSafe s) : MotionSafe (startPlaying s) := runEvents_kept (h.beside rfl)

/-! ## The ends of a performance and of a self-test, and steps -/

theorem enterIdle_kept (h : MotionSafe s) : MotionSafe (enterIdle s) := by
  have hlog : ∀ f, MotionSafe (writeLog (modPerf f s)) := fun f => by
    unfold writeLog
    split
    · exact h.beside rfl
    · exact h.beside rfl
  have htransfer : ∀ f, MotionSafe (autoTransfer (raise .showEnded (writeLog (modPerf f s)))) := fun f =>
    ite_kept ((hlog f).beside rfl) ((hlog f).raise_kept _)
  unfold enterIdle
  exact examineQueue_kept (applyPending_kept ((htransfer _).beside rfl))

theorem abortToIdle_kept (r : PerfResult) (owe : Bool) (h : MotionSafe s) : MotionSafe (abortToIdle r owe s) := by
  have hdoors : MotionSafe (demandDoors (BitVec.allOnes 8) DoorRecord.withdrawPe (modPerf (·.setResult r) s)) :=
    demandDoors_kept _ (fun _ => ⟨rfl, rfl⟩) (h.beside rfl)
  exact enterIdle_kept (hdoors.beside rfl)

theorem abortToCoda_kept (r : PerfResult) (h : MotionSafe s) : MotionSafe (abortToCoda r s) := by
  unfold abortToCoda
  split
  iterate 2 exact h.enterCoda_kept r
  all_goals exact h

theorem stopSelfTest_kept (c : TestCause) (h : MotionSafe s) : MotionSafe (stopSelfTest c s) := ite_kept (h.beside rfl) h

theorem handOver_kept (b : Bell) (rest : List Bell) (h : MotionSafe s) : MotionSafe (handOver b rest s) :=
  (h.beside (t := modSelfTest _ s) rfl).strikes (strikeArrives_onlyStrikes _ (.refl _))

theorem endSelfTest_kept (h : MotionSafe s) : MotionSafe (endSelfTest s) :=
  examineQueue_kept (applyPending_kept (h.beside rfl))

theorem offerStep_kept (delta : Int) (src : StepSource) (h : MotionSafe s) : MotionSafe (offerStep delta src s) := by
  unfold offerStep
  split
  iterate 2 exact examineQueue_kept (applyStep_kept delta src (h.beside rfl))
  all_goals exact h.beside rfl

/-! ## The presentation state -/

theorem enterPresentation_kept (p : Presentation) (h : MotionSafe s) : MotionSafe (enterPresentation p s) := by
  cases p with
  | run | quiet => exact examineQueue_kept (h.beside rfl)
  | locked | still | servicePending | serviceReady | service => exact flushQueue_kept (h.beside rfl)

theorem owePark_kept (v : Bool) (h : MotionSafe s) : MotionSafe (owePark v s) := h.beside rfl

end MotionSafe

end Sys2Proof.Machine
end

section
/-! SUPPORT. The halt (R152, R163, R174) leaves every motor at rest, and so does the part's becoming LOCKED (R52, R153, R157). -/

namespace Sys2Proof.Machine

variable {s t u : State}

/-! ## The halt -/

/-- A halt brings an axis to rest, where its drive agrees with its state. -/
theorem AxisRecord.halt_rests {r : AxisRecord} (h : r.drive.isSome = true → r.state.drives = true) : r.halt.Rests := by
  refine ⟨AxisRecord.halt_drive h, ?_, ?_⟩
  all_goals
    unfold AxisRecord.halt
    cases hstate : r.state with
    | moving | dwelling | homing => simp [AxisState.drives]
    | waitDoor => cases r.waitHoming <;> simp [AxisState.drives]
    | unreferenced | idle | faultOff | lockedOut => simp [hstate, AxisState.drives]

/-- The fault of a door whose axes rest leaves them at rest. -/
theorem doorFault_axes_rest (k : DoorFaultKind) (trip : Option Nat) (d : Axis) (h : ∀ a : Axis, (s.axis a).Rests) (a : Axis) :
    ((doorFault k trip d s).axis a).Rests := by
  refine forGuarded_keeps (P := fun u => ∀ a, (u.axis a).Rests) (f := fun a u => u.modAxis a (·.guardLost)) (fun x u _ hu y => ?_)
    (s := s.modDoor d _) h a
  rw [modAxis_axis]
  split
  · rw [(hu x).guardLost_eq]; exact hu x
  · exact hu y

theorem haltDoor_axes_rest (d : Axis) (h : ∀ a : Axis, (s.axis a).Rests) (a : Axis) : ((haltDoor d s).axis a).Rests := by
  rw [haltDoor_eq]
  split
  · exact doorFault_axes_rest .halt none d h a
  · exact h a

/-- A halt leaves every motor at rest. -/
theorem haltTower_rests (haxes : ∀ a : Axis, (s.axis a).drive.isSome = true → (s.axis a).state.drives = true)
    (hdoors : ∀ d : Axis, (s.door d).Agrees) : MotorsRest (haltTower s) := by
  have hoff := haltTower_motorsOff haxes hdoors
  have hdampers : ∀ a, (forEach haltDamper allBells s).axis a = s.axis a := fun a => by rw [State.axis, haltDampers_mu]; rfl
  refine ⟨?_, fun d => ⟨hoff.doors d, ?_⟩⟩
  · refine forEach_keeps (P := fun u => ∀ a, (u.axis a).Rests) (f := haltDoor) (fun d _ => haltDoor_axes_rest d) allAxes _ fun a => ?_
    rw [haltAxes_axis, hdampers]
    exact AxisRecord.halt_rests (haxes a)
  · exact forEach_reaches (Q := fun d u => (u.door d).state.travels = false) (fun d u => (haltDoor_cases d u).1)
      (fun x y _ => haltDoor_keeps_standing x y) (mem_allAxes d) _

theorem haltTower_lu (s : State) : (haltTower s).lu = s.lu :=
  (haltTower_onlyMotion s).lu.trans (forEach_onlyStrikes (f := haltDamper) (fun b _ => haltDamper_onlyStrikes b) allBells (.refl s)).lu

theorem LibrarySafe.same (h : LibrarySafe s) (hlu : t.lu = s.lu) : LibrarySafe t :=
  ⟨fun hw => by rw [State.partLocked, hlu]; exact h.walkLocked (hlu ▸ hw), fun p hp => h.leaders p (hlu ▸ hp),
    fun w p hw => h.validated w p (hlu ▸ hw)⟩

/-- Once a reason is in the set and the halt, if it is the first, is carried out, the Motion Unit is safe (R173, R174). -/
theorem MotionSafe.reasonAdded_kept (first : Bool) (r : MuteReason) (h : MotionSafe s) : MotionSafe (reasonAdded first r s) := by
  have hcut := cutFor_cutFrame first r s
  have hlu : (cutFor first r s).lu = s.lu := hcut.lu
  have hmu : (cutFor first r s).mu = s.mu := hcut.mu
  unfold reasonAdded
  split
  · refine (haltTower_rests (fun a => ?_) fun d => ?_).motionSafe (h.library.same ((haltTower_lu _).trans hlu))
    · rw [State.axis, hmu]; exact h.axisDrive a
    · rw [State.door, hmu]; exact h.doorDrive d
  · next hold =>
    refine h.same (by rw [hmu, hlu]) fun hnew => Bool.of_not_eq_false fun hs => hold ?_
    rw [State.halted, hcut.sv] at hnew
    rw [hs, show (setReason r true s).halted = true from hnew]
    rfl

/-! ## LOCKED -/

theorem forEach_syncMembers_axis (a : Axis) (s : State) : (forEach syncMembers allAxes s).axis a = s.axis a := by
  refine forEach_keeps (P := fun u => u.axis a = s.axis a) (f := syncMembers) (fun d u hu => ?_) allAxes s rfl
  obtain ⟨f, he, -⟩ := syncMembers_gives d u
  rw [he]
  exact hu

/-- The tower as the part becomes LOCKED: every axis loses what it does, the open demand sets follow, and every door is read. -/
def lockedTower (s : State) : State :=
  forEach readDoor allAxes (forEach syncMembers allAxes (forEach (fun a s => s.modAxis a (·.lock)) allAxes s))

/-- It stands still. -/
theorem lockedTower_rests (s : State) : MotorsRest (lockedTower s) where
  axes a := by
    refine forEach_keeps (P := fun u => (u.axis a).Rests) (f := readDoor) (fun d _ hu => hu) allAxes _ ?_
    rw [forEach_syncMembers_axis, forEach_modAxis AxisRecord.lock a allAxes s (by decide), if_pos (mem_allAxes a)]
    exact AxisRecord.lock_rests _
  doors d := by
    refine forEach_reaches (Q := fun d u => (u.door d).Rests) (f := readDoor) (fun d u => ?_) (fun x y u hu => ?_) (mem_allAxes d) _
    · rw [readDoor, modDoor_door_self]; exact DoorRecord.read_rests _ _ _ _
    · rw [readDoor, modDoor_door]
      split
      · exact DoorRecord.read_rests _ _ _ _
      · exact hu

/-- The part becomes LOCKED safely, whatever its motors did (R52). -/
theorem becomeLocked_safe (h : LibrarySafe s) : MotionSafe (becomeLocked s) := by
  have haxes : OnlyMotion s (forEach (fun a s => s.modAxis a (·.lock)) allAxes s) :=
    forEach_onlyMotion (f := fun a s => s.modAxis a (·.lock)) (fun a _ => modAxis_onlyMotion a _) allAxes (.refl s)
  have hdoors := forEach_onlyMotion (f := readDoor) (fun d _ => modDoor_onlyMotion d _) allAxes
    (forEach_onlyMotion (fun d _ => syncMembers_onlyMotion d) allAxes haxes)
  have hlocked := (lockedTower_rests s).motionSafe (h.same hdoors.lu)
  unfold becomeLocked
  dsimp only
  split
  iterate 3 exact (hlocked.owePark_kept false).enterPresentation_kept .locked
  all_goals exact hlocked.owePark_kept false

end Sys2Proof.Machine
end

section
/-! SUPPORT. The Supervision Unit and the ends of walks and store operations keep the Motion Unit safe (R51, R59, R152, R153, R167 to R185). -/

namespace Sys2Proof.Machine

variable {s u : State}

/-- The record comes to rest, or keeps its state and its drive. -/
def AxisRecord.Calmed (r r' : AxisRecord) : Prop := r'.Rests ∨ r'.state = r.state ∧ r'.drive = r.drive

/-- A home request stops an axis that is not homing already (R139). -/
theorem AxisRecord.requestHome_rests {r : AxisRecord} (h : r.state ≠ .homing) : r.requestHome.Rests := by
  rw [AxisRecord.requestHome, if_neg h]
  exact r.giveHome_rests

theorem AxisRecord.leaveService_calmed (r : AxisRecord) : r.Calmed r.leaveService := by
  unfold AxisRecord.leaveService
  split
  · exact .inr ⟨rfl, rfl⟩
  · exact .inl r.giveHome_rests

/-- No axis drives as service is left. -/
theorem AxisRecord.leaveService_stands (r : AxisRecord) : r.leaveService.state.drives = false := by
  unfold AxisRecord.leaveService
  split
  · next hstate => rw [hstate]; rfl
  · exact r.giveHome_rests.stands

theorem AxisRecord.earlyHatch_calmed (r : AxisRecord) : r.Calmed r.earlyHatch := by
  unfold AxisRecord.earlyHatch
  split
  · exact .inr ⟨rfl, rfl⟩
  · exact .inl r.unreference_rests

theorem AxisRecord.clearFault_calmed (r : AxisRecord) : r.Calmed r.clearFault := by
  unfold AxisRecord.clearFault
  cases hstate : r.state with
  | faultOff | lockedOut =>
    exact .inl (AxisRecord.requestHome_rests nofun)
  | unreferenced | homing | idle | moving | dwelling | waitDoor => exact .inr ⟨hstate.symm ▸ rfl, rfl⟩

/-- An axis whose off-time ends rests IDLE or UNREFERENCED (R150). -/
theorem AxisRecord.endOffTime_rests {r : AxisRecord} (hdrive : r.drive = none) (hstate : r.state = .faultOff) : r.endOffTime.Rests := by
  unfold AxisRecord.endOffTime
  split
  · exact ⟨hdrive, rfl, nofun⟩
  · exact AxisRecord.requestHome_rests (hstate.trans_ne nofun)

/-- No present figure axis drives. -/
def FiguresStand (s : State) : Prop := ∀ a : Axis, s.isFigure a = true → (s.axis a).state.drives = false

theorem FiguresStand.guardedStand (h : FiguresStand s) (d : Axis) : GuardedStand s d := fun a hg => h a (isGuarded_iff.mp hg).1

theorem leaveService_figuresStand (s : State) : FiguresStand (forFigures (fun a s => s.modAxis a (·.leaveService)) s) := by
  intro a
  refine forEach_reaches (Q := fun a u => u.isFigure a = true → (u.axis a).state.drives = false)
    (f := fun a u => if u.isFigure a then u.modAxis a (·.leaveService) else u) (fun x u => ?_) (fun x y u hu => ?_) (mem_allAxes a) s
  · split
    · rw [modAxis_axis_self]; exact fun _ => AxisRecord.leaveService_stands _
    · next hf => exact fun hf' => absurd hf' hf
  · split
    · rw [modAxis_axis]
      split
      · exact fun _ => AxisRecord.leaveService_stands _
      · exact hu
    · exact hu

namespace MotionSafe

theorem modAxis_calmed {a : Axis} {f : AxisRecord → AxisRecord} (hf : (s.axis a).Calmed (f (s.axis a))) (h : MotionSafe s) :
    MotionSafe (s.modAxis a f) := by
  obtain hrests | ⟨hstate, hdrive⟩ := hf
  · exact h.modAxis_rests hrests
  · exact h.modAxis_goesOn hstate fun hd => by rwa [hdrive] at hd

theorem modFigures_kept {f : AxisRecord → AxisRecord} (hf : ∀ r : AxisRecord, r.Calmed (f r)) (h : MotionSafe s) :
    MotionSafe (forFigures (fun a s => s.modAxis a f) s) :=
  forFigures_keeps (P := MotionSafe) (f := fun a s => s.modAxis a f) (fun _ _ _ hu => hu.modAxis_calmed (hf _)) h

/-! ## The mute reason set and the monitors -/

theorem reasonToEngine_kept (r : MuteReason) (h : MotionSafe s) : MotionSafe (reasonToEngine r s) := by
  unfold reasonToEngine
  split
  · split
    iterate 2 exact h.beside rfl
    all_goals exact h
  · exact ite_kept (h.abortToIdle_kept _ _) h
  all_goals exact h

theorem addReasonWith_kept (first : Bool) (r : MuteReason) (h : MotionSafe s) : MotionSafe (addReasonWith first r s) := by
  rw [addReasonWith_eq]
  exact ite_kept h ((h.reasonAdded_kept first r).reasonToEngine_kept r)

theorem addReason_kept (r : MuteReason) (h : MotionSafe s) : MotionSafe (addReason r s) := h.addReasonWith_kept true r

/-- A reason that leaves does no harm. -/
theorem setReason_false_kept (r : MuteReason) (h : MotionSafe s) : MotionSafe (setReason r false s) := by
  refine h.same rfl fun hs => ?_
  have hhas : ∀ {x}, (setReason r false s).sv.mute.has x = true → s.sv.mute.has x = true := MuteSet.has_of_put_false
  exact (MuteSet.halted_iff _).mpr (((MuteSet.halted_iff _).mp hs).imp (.imp hhas hhas) hhas)

theorem removeReason_kept (r : MuteReason) (h : MotionSafe s) : MotionSafe (removeReason r s) := by
  have hset := h.setReason_false_kept r
  unfold removeReason
  cases r with
  | supply | thermal => exact hset.beside rfl
  | operator | hush | service => exact hset

theorem putReason_kept (r : MuteReason) (v : Bool) (h : MotionSafe s) : MotionSafe (putReason r v s) :=
  ite_kept (h.addReason_kept r) (h.removeReason_kept r)

theorem judgeSupply_kept (vm : Nat) (h : MotionSafe s) : MotionSafe (judgeSupply vm s) := by
  unfold judgeSupply
  split
  · exact h
  · exact putReason_kept _ _ (showSupply_motionSafe _ h)

theorem takeSample_kept (x : Nat) (h : MotionSafe s) : MotionSafe (takeSample x s) := by
  unfold takeSample
  dsimp only
  split
  · exact h.beside rfl
  · exact judgeSupply_kept _ (h.beside rfl)

theorem takeDieReading_kept (c : Int) (h : MotionSafe s) : MotionSafe (takeDieReading c s) := putReason_kept _ _ (h.beside rfl)

theorem endBlocks_kept (h : MotionSafe s) : MotionSafe (endBlocks s) := by
  unfold endBlocks
  dsimp only
  split
  · exact h.beside rfl
  · exact ite_kept (removeReason_kept _ (h.beside rfl)) (ite_kept (addReason_kept _ (h.beside rfl)) (h.beside rfl))

/-! ## The end of a walk and of a store operation -/

theorem examineStrikes_kept (h : MotionSafe s) : MotionSafe (examineStrikes s) := h.strikes (examineStrikes_onlyStrikes (.refl s))

theorem adoptBells_kept (h : MotionSafe s) : MotionSafe (adoptBells s) :=
  h.strikes (reportWarm_onlyStrikes (forEach_onlyStrikes (fun b _ => adoptProfileBell_onlyStrikes b) allBells (.refl s)))

theorem dropAbsent_kept (h : MotionSafe s) : MotionSafe (dropAbsent s) :=
  forEach_keeps (P := MotionSafe) (f := fun a s => if s.isFigure a then s else s.modAxis a (·.unreference))
    (fun _ _ hu => ite_kept hu (hu.modAxis_rests (AxisRecord.unreference_rests _))) allAxes s h

theorem makeReady_kept (h : MotionSafe s) : MotionSafe (makeReady s) := by
  have hfigures : MotionSafe (forFigures requestHome (raise .directoryReady s)) :=
    forFigures_keeps (P := MotionSafe) (fun a _ _ hu => (hu.behind.requestHome_kept a).safe) (h.raise_kept _)
  have hdoors := hfigures.demandDoors_kept (BitVec.allOnes 8) (f := DoorRecord.park) fun _ => ⟨rfl, rfl⟩
  unfold makeReady
  exact examineStrikes_kept (ite_kept (hdoors.enterPresentation_kept _) hdoors)

theorem lockOutSupply_kept (h : MotionSafe s) : MotionSafe (lockOutSupply s) := addReasonWith_kept _ _ (showSupply_motionSafe _ h)

/-- A walk ends with the part LOCKED, so with every motor at rest, and puts a profile to work that it has validated (R51, R52). -/
theorem walkOver_kept {w : Walk} (hw : s.lu.walk = some w) {f : LibraryUnit → LibraryUnit} (hwalk : (f s.lu).walk = none)
    (hprofile : (f s.lu).profile = none ∨ (f s.lu).profile = w.install.join) (h : MotionSafe s) : MotionSafe (s.modLu f) := by
  have hlocked : s.partLocked = true := h.walkLocked (by rw [hw]; rfl)
  refine MotorsRest.motionSafe ((h.motorsRest (.inr hlocked)).same rfl) ⟨fun hsome => ?_, fun p hp => ?_, fun v p hv => ?_⟩
  · rw [modLu_lu, hwalk] at hsome; cases hsome
  · rw [modLu_lu] at hp
    rcases hprofile with hnone | hinstall
    · rw [hnone] at hp; cases hp
    · rw [hinstall, Option.join_eq_some_iff] at hp
      exact h.validated w p hw hp
  · rw [modLu_lu, hwalk] at hv; cases hv

theorem endWalk_kept (r : WalkReason) (h : MotionSafe s) : MotionSafe (endWalk r s) := by
  unfold endWalk
  split
  · exact h
  · next w hw =>
    dsimp only
    generalize walkOutcome r w.install s.lu.report.badCrc = st
    have hover : ∀ (d : LibraryUnit → List DirEntry) (l : LibraryUnit → Vector (Option PoseList) 32) (rep : LibraryUnit → WalkReport),
        MotionSafe (s.modLu fun u =>
        { u with
          dirState := st
          walk := none
          profile := if st = .absent then none else w.install.join
          directory := d u
          poseLists := l u
          report := rep u }) := fun d l rep => by
      refine h.walkOver_kept hw rfl ?_
      dsimp only
      split
      · exact .inl rfl
      · exact .inr rfl
    have hadopt := fun d l rep => adoptBells_kept (dropAbsent_kept (hover d l rep))
    have hlock := fun d l rep => ite_kept (p := st = .absent)
      (lockOutSupply_kept ((hadopt d l rep).strikes (dropStrikes_onlyStrikes .channelFault (.refl _)))) (hadopt d l rep)
    have hload := fun d l rep => recomputeTrigger_kept ((hlock d l rep).loadTables_kept w)
    have hready := fun d l rep => ite_kept (p := st = .absent) (hload d l rep) (hload d l rep).makeReady_kept
    split
    · exact ite_kept (holdResult_kept _ _ _ (hready _ _ _)) (hready _ _ _)
    · exact hready _ _ _

/-- The directory drops to NONE, and the part becomes LOCKED (R59). -/
theorem dropDirectory_kept (h : MotionSafe s) : MotionSafe (dropDirectory s) :=
  becomeLocked_safe ⟨fun _ => rfl, h.leaders, h.validated⟩

theorem endStoreOp_kept (o : StoreOp) (out : StoreOutcome) (data : List Byte) (h : MotionSafe s) : MotionSafe (endStoreOp o out data s) := by
  unfold endStoreOp
  split
  · exact h.holdResult_kept o out data
  · exact recomputeTrigger_kept (holdResult_kept o out data (ite_kept h.dropDirectory_kept (h.beside rfl)))

theorem storeStep_kept (o : StoreOp) (data : List Byte) (h : MotionSafe s) : MotionSafe (storeStep o data s) := by
  unfold storeStep
  split
  · exact ite_kept (h.setStorePhase_kept _) (h.setStorePhase_kept _)
  · exact h.endStoreOp_kept o _ _
  · exact h.setStorePhase_kept _
  · exact h.setStorePhase_kept _
  · exact ite_kept (h.setStorePhase_kept _) (h.endStoreOp_kept o _ _)
  · exact h

/-- A walk begins under the working profile (R43), with the part LOCKED already or becoming so (R52). -/
theorem beginRescan_kept (h : MotionSafe s) : MotionSafe (beginRescan s) := by
  have htake := h.takeStoreOp_kept ⟨.rescan, 0, 0, [], .walking⟩
  have hlibrary : LibrarySafe (startWalk (takeStoreOp ⟨.rescan, 0, 0, [], .walking⟩ s)) :=
    ⟨fun _ => rfl, htake.leaders, fun w p hw hp => by cases hw; cases hp⟩
  refine grantPort_kept (recomputeTrigger_kept ?_)
  cases hlocked : s.partLocked with
  | false => exact becomeLocked_safe hlibrary
  | true => exact MotorsRest.motionSafe ((h.motorsRest (.inr hlocked)).same rfl) hlibrary

/-! ## Service -/

/-- The lamp's and the notice's part of a service transition. -/
theorem serviceState_kept (l : Lamp) (h : MotionSafe s) : MotionSafe (raise .serviceState (setLamp l s)) := h.beside rfl

theorem enterServicePending_kept (h : MotionSafe s) : MotionSafe (enterServicePending s) := by
  unfold enterServicePending
  exact serviceState_kept _ (owePark_kept _ (stopSelfTest_kept _ (abortToCoda_kept _ (h.enterPresentation_kept _))))

/-- As service is left the figures stand, so that each door may be read as its switches show it (R170). -/
theorem leaveService_kept (h : MotionSafe s) : MotionSafe (leaveService s) := by
  have hfigures := (h.removeReason_kept .service).modFigures_kept AxisRecord.leaveService_calmed
  have hdoors := forEach_keeps (P := fun u => MotionSafe u ∧ FiguresStand u)
    (f := fun d s => if s.isDoor d then (readDoor d s).modDoor d (·.park) else s) (fun d u ⟨hu, hstand⟩ => ?_) allAxes _
    ⟨hfigures, leaveService_figuresStand _⟩
  · exact enterPresentation_kept _ (serviceState_kept _ hdoors.1)
  · split
    · have hread : MotionSafe (readDoor d u) := hu.modDoor_rests (DoorRecord.read_rests _ _ _ _) (.inr (hstand.guardedStand d))
      exact ⟨hread.modDoor_goesOn rfl id, hstand⟩
    · exact ⟨hu, hstand⟩

theorem cancelService_kept (h : MotionSafe s) : MotionSafe (cancelService s) :=
  enterPresentation_kept _ (serviceState_kept _ (h.owePark_kept _))

theorem press_kept (h : MotionSafe s) : MotionSafe (press s) := by
  unfold press
  split
  iterate 3 exact h.enterServicePending_kept
  iterate 2 exact h.cancelService_kept
  · exact ite_kept h h.leaveService_kept
  · exact h

theorem earlyHatch_kept (h : MotionSafe s) : MotionSafe (earlyHatch s) := by
  have hreason := addReason_kept .service (owePark_kept false (h.enterPresentation_kept .service))
  have hidle : ∀ c : Bool, MotionSafe (if c then abortToIdle .abortedService false
      (addReason .service (owePark false (enterPresentation .service s))) else addReason .service (owePark false (enterPresentation .service s))) :=
    fun _ => ite_kept (hreason.abortToIdle_kept _ _) hreason
  unfold earlyHatch
  exact serviceState_kept _ (modFigures_kept AxisRecord.earlyHatch_calmed ((hidle _).beside rfl))

theorem openHatch_kept (h : MotionSafe s) : MotionSafe (openHatch s) := by
  have hopen : MotionSafe (s.modSv fun u => { u with hatchOpen := true }) := h.beside rfl
  unfold openHatch
  dsimp only
  split
  · exact serviceState_kept _ (addReason_kept .service (hopen.enterPresentation_kept .service))
  · exact hopen
  all_goals exact hopen.earlyHatch_kept

/-! ## What follows at once -/

theorem immediate_kept (i : Immediate) (h : MotionSafe s) : MotionSafe (i.act s) := by
  unfold Immediate.act
  cases i with
  | motion => exact h.motionPass_kept
  | exclusion => exact h.beside rfl
  | start => exact h.startPlaying_kept
  | release => exact h.releaseHold_kept
  | coda => exact h.enterIdle_kept
  | selfTest => exact h.endSelfTest_kept
  | recoveryPark => exact park_kept (h.beside rfl)
  | presentationPark => exact park_kept (h.owePark_kept false)
  | serviceReady => exact serviceState_kept _ (h.enterPresentation_kept _)

end MotionSafe

end Sys2Proof.Machine
end

section
/-! SUPPORT. The effects of the events and the answers of the requests keep the Motion Unit safe, block by block in the order of the files
named …Effects; so does every command and every step. -/

namespace Sys2Proof.Machine

variable {s : State}

/-- Both resets leave the Motion Unit at rest and the part LOCKED, and the soft reset keeps the working profile (R61, R156, R200). -/
theorem powerOn_motionSafe (b1 b0 : Bool) (s : State) : MotionSafe (powerOn b1 b0 s) :=
  (motorsRest_of_resetMotion (pins := s.pins) (now := 0) rfl).motionSafe (librarySafe_of_reset rfl nofun)

theorem softReset_mu (s : State) : (softReset s).mu = resetMotion s.pins s.now := by
  unfold softReset
  split <;> rfl

namespace MotionSafe

theorem softReset_kept (h : MotionSafe s) : MotionSafe (softReset s) :=
  (motorsRest_of_resetMotion (softReset_mu s)).motionSafe (librarySafe_of_reset (softReset_lu s) h.leaders)

/-! ## The Motion Unit -/

theorem moveAxis_kept (p : List Byte) (h : MotionSafe s) : MotionSafe (moveAxis p s).state := by
  have hdoor : ∀ pose d, MotionSafe (moveDoor pose d s).state := fun pose d => by
    refine demandDoors_kept _ (fun r => ?_) h
    split <;> exact ⟨rfl, rfl⟩
  unfold moveAxis
  dsimp only
  split
  · exact h
  split
  · exact h
  split
  · exact h
  split
  · exact h
  split
  · split
    · exact h
    · exact hdoor _ _
  split
  · exact h
  split
  · exact h
  · exact (h.behind.give_kept _ _).safe

theorem homeAxis_kept (p : List Byte) (h : MotionSafe s) : MotionSafe (homeAxis p s).state := by
  unfold homeAxis
  split
  · exact h
  split
  · exact h
  split
  · exact h
  split_ifs
  · exact h
  · exact h
  · exact h
  · exact (h.behind.requestHome_kept _).safe

theorem clearFault_kept (p : List Byte) (h : MotionSafe s) : MotionSafe (clearFault p s).state := by
  have hbell : ∀ b, MotionSafe (s.modChan b Channel.clearFault) := fun b => h.beside rfl
  unfold clearFault
  split
  · unfold clearBell
    split
    · exact h
    split
    · exact h
    · exact ite_kept (hbell _).examineStrikes_kept (hbell _)
  · unfold clearAxis
    split
    · exact h
    split
    · refine h.modDoor_goesOn ?_ ?_
      all_goals
        unfold DoorRecord.clearFault
        split
      · rfl
      · rfl
      · exact id
      · exact id
    split
    · exact h.modAxis_calmed (AxisRecord.clearFault_calmed _)
    · exact h
  · exact h

theorem axisFault_kept (n : AxisFaultKind) (a : Axis) (h : MotionSafe s) : MotionSafe (axisFault n a s) := (h.behind.axisFault_kept n).safe

theorem reversalEnd_kept (a : Axis) (h : MotionSafe s) : MotionSafe (reversalEnd a s) := by
  have haxis : MotionSafe (s.modAxis a fun r => { r with drive := r.drive.map (·.endReversal s.now) }) :=
    h.modAxis_goesOn rfl fun hd => by simpa using hd
  refine haxis.modDoor_goesOn (f := fun r => { r with drive := r.drive.map (·.endReversal s.now) }) rfl fun hd => ?_
  simpa using hd

theorem dwellOver_kept (a : Axis) (h : MotionSafe s) : MotionSafe (dwellOver a s) := by
  unfold dwellOver
  split
  · next hd => exact (h.behind.dwellNext_kept listFuel (h.axis_undriven (by rw [hd.1]; rfl))).safe
  · exact h

theorem doorOpenSwitch_kept (d : Axis) (active : Bool) (h : MotionSafe s) : MotionSafe (doorOpenSwitch d active s) := by
  have hcount : MotionSafe (s.modDoor d fun r => { r with faultCount := 0 }) := h.modDoor_goesOn rfl id
  unfold doorOpenSwitch
  split
  · exact hcount.enterOpen_kept d
  · exact h.modDoor_goesOn rfl id
  · exact h.modDoor_goesOn rfl id
  all_goals exact h

theorem doorArriveClosed_kept (d : Axis) (h : MotionSafe s) : MotionSafe (doorArriveClosed d s) := by
  unfold doorArriveClosed
  split
  · next hclosing =>
    have hcount : MotionSafe (s.modDoor d fun r => { r with faultCount := 0 }) := h.modDoor_goesOn rfl id
    exact hcount.enterClosed_kept (h.guardedStand (by rw [hclosing]; nofun))
  · exact h

theorem homeSwitchChange_kept (a : Axis) (active : Bool) (h : MotionSafe s) : MotionSafe (homeSwitchChange a active s) := by
  have hpins : ∀ f, MotionSafe (s.modPins f) := fun f => h.beside rfl
  unfold homeSwitchChange
  exact ite_kept (hpins _) (ite_kept ((hpins _).doorArriveClosed_kept a) (ite_kept ((hpins _).behind.endHoming_kept a).safe (hpins _)))

theorem farSwitchChange_kept (a : Axis) (active : Bool) (h : MotionSafe s) : MotionSafe (farSwitchChange a active s) := by
  have hpins : ∀ f, MotionSafe (s.modPins f) := fun f => h.beside rfl
  unfold farSwitchChange
  exact doorOpenSwitch_kept a active (ite_kept (hpins _).behind.judgeLimit_kept.safe (hpins _))

theorem doorSwitchChange_kept (d : Axis) (sw : DoorSwitch) (active : Bool) (h : MotionSafe s) :
    MotionSafe (doorSwitchChange d sw active s) :=
  match sw with
  | .open => h.farSwitchChange_kept d active
  | .closed => h.homeSwitchChange_kept d active

theorem alimChange_kept (a : Axis) (active : Bool) (h : MotionSafe s) : MotionSafe (alimChange a active s) := by
  have hpins : ∀ f, MotionSafe (s.modPins f) := fun f => h.beside rfl
  unfold alimChange
  exact ((hpins _).modAxis_goesOn rfl id).modDoor_goesOn rfl id

theorem axisOffTimeEnd_kept (a : Axis) (h : MotionSafe s) : MotionSafe (axisOffTimeEnd a s) := by
  unfold axisOffTimeEnd
  split
  · next hoff =>
    exact h.modAxis_rests (AxisRecord.endOffTime_rests (h.axis_undriven (by rw [hoff.1]; rfl)) hoff.1)
  · exact h

theorem switchLost_kept (d : Axis) (h : MotionSafe s) : MotionSafe (switchLost d s) := by
  unfold switchLost
  split
  · exact h
  · exact ite_kept (h.countedFault_kept _ _ d) h

/-! ## The Performance Engine -/

theorem divisionInstant_kept (h : MotionSafe s) : MotionSafe (divisionInstant s) := by
  unfold divisionInstant
  split
  · exact h
  · exact ite_kept (runEvents_kept (h.beside rfl)) h

theorem waitLimitExpiry_kept (h : MotionSafe s) : MotionSafe (waitLimitExpiry s) := by
  unfold waitLimitExpiry
  split
  · exact ite_kept (releaseHold_kept (h.beside rfl)) h
  all_goals exact h

theorem stallTimeout_kept (h : MotionSafe s) : MotionSafe (stallTimeout s) := by
  unfold stallTimeout
  split
  · exact ite_kept (h.enterCoda_kept _) h
  all_goals exact h

theorem codaTimeout_kept (h : MotionSafe s) : MotionSafe (codaTimeout s) := by
  unfold codaTimeout
  split
  · exact ite_kept (enterIdle_kept (h.beside rfl)) h
  · exact h

theorem fillRing_kept (a : Nat) (data : List Byte) (h : MotionSafe s) : MotionSafe (fillRing a data s) := by
  unfold fillRing
  split
  iterate 2 exact requestReads_kept (h.beside rfl)
  all_goals exact h

theorem prefetchReadEnd_kept (data : List Byte) (h : MotionSafe s) : MotionSafe (prefetchReadEnd data s) := by
  have hport := h.freePort_kept
  unfold prefetchReadEnd
  split
  · exact h
  · dsimp only
    split
    · exact grantPort_kept (ite_kept hport (hport.fillRing_kept _ _))
    all_goals exact hport.grantPort_kept

theorem selfTest_kept (p : List Byte) (h : MotionSafe s) : MotionSafe (selfTest p s).state := by
  unfold selfTest
  split
  · exact h
  split
  · exact h
  split
  iterate 3 exact h
  all_goals
    split
    · exact h
    · exact h.beside rfl

theorem selfTestHandoff_kept (h : MotionSafe s) : MotionSafe (selfTestHandoff s) := by
  unfold selfTestHandoff
  split
  · exact h
  · exact ite_kept (h.handOver_kept _ _) h

/-! ## The Schedule Unit -/

theorem setSeason_kept (p : List Byte) (h : MotionSafe s) : MotionSafe (setSeason p s).state := by
  unfold setSeason
  dsimp only
  split
  · exact recomputeTrigger_kept (h.beside rfl)
  · exact h

theorem setHour_kept (p : List Byte) (h : MotionSafe s) : MotionSafe (setHour p s).state := by
  unfold setHour
  split
  · split
    · exact h
    · exact recomputeTrigger_kept (h.beside rfl)
  · exact h

theorem playShow_kept (p : List Byte) (h : MotionSafe s) : MotionSafe (playShow p s).state := by
  unfold playShow
  split
  · exact h
  split
  · exact h
  split
  · exact h
  split
  · exact h
  split
  · exact h
  split
  · exact h
  · exact examineNewHead_kept s (h.beside rfl)

theorem stopShow_kept (p : List Byte) (h : MotionSafe s) : MotionSafe (stopShow p s).state := by
  have hstop : MotionSafe (stopEngine s) := stopSelfTest_kept _ (h.abortToCoda_kept _)
  unfold stopShow
  dsimp only
  split
  · exact hstop.flushQueue_kept
  · exact hstop

/-! ## The Library Unit -/

theorem storeRead_kept (p : List Byte) (h : MotionSafe s) : MotionSafe (storeRead p s).state := by
  unfold storeRead
  dsimp only
  split_ifs
  · exact h
  · exact h.takeStoreOp_kept _
  · exact h

theorem storeWrite_kept (p : List Byte) (h : MotionSafe s) : MotionSafe (storeWrite p s).state := by
  unfold storeWrite
  dsimp only
  split_ifs
  · exact h
  · exact h
  · exact h.takeStoreOp_kept _
  · exact h

theorem storeErase_kept (p : List Byte) (h : MotionSafe s) : MotionSafe (storeErase p s).state := by
  unfold storeErase
  dsimp only
  split_ifs
  · exact h
  · exact h
  · exact h.takeStoreOp_kept _
  · exact h

theorem rescan_kept (p : List Byte) (h : MotionSafe s) : MotionSafe (rescan p s).state := by
  unfold rescan
  split_ifs
  · exact h
  · exact h
  · exact h.beginRescan_kept

theorem walkTransferEnd_kept (data : List Byte) (h : MotionSafe s) : MotionSafe (walkTransferEnd data s) := by
  have hport := h.freePort_kept
  unfold walkTransferEnd
  split
  · next u w _ _ =>
    have hstep : MotionSafe (if u.transfer = w.phase.transfer then walkStep w.phase data (freePort s) else (freePort s, none)).1 := by
      split
      · exact hport.walkStep_kept _ _
      · exact hport
    refine grantPort_kept ?_
    split
    · exact hstep.recomputeTrigger_kept.endWalk_kept _
    · exact hstep.recomputeTrigger_kept
  · exact h

theorem walkStatusTimeout_kept (h : MotionSafe s) : MotionSafe (walkStatusTimeout s) := by
  unfold walkStatusTimeout
  split
  · exact h
  split
  · exact ite_kept (h.setPhase_kept _).grantPort_kept h
  all_goals exact h

theorem storeTransferEnd_kept (data : List Byte) (h : MotionSafe s) : MotionSafe (storeTransferEnd data s) := by
  have hport := h.freePort_kept
  unfold storeTransferEnd
  split
  · exact h
  · refine grantPort_kept ?_
    split
    · exact ite_kept hport (hport.storeStep_kept _ _)
    · exact hport

theorem storeBusyTimeout_kept (h : MotionSafe s) : MotionSafe (storeBusyTimeout s) := by
  unfold storeBusyTimeout
  split
  · exact h
  split
  · exact ite_kept (h.endStoreOp_kept _ _ _) h
  all_goals exact h

theorem changeTimeout_kept (n : StoreKind) (limit : Nat) (h : MotionSafe s) : MotionSafe (changeTimeout n limit s) := by
  unfold changeTimeout
  split
  · exact h
  split
  · exact ite_kept (h.endStoreOp_kept _ _ _) h
  all_goals exact h

/-! ## The Strike Unit -/

theorem strikeTest_kept (p : List Byte) (h : MotionSafe s) : MotionSafe (strikeTest p s).state := by
  unfold strikeTest
  dsimp only
  split
  · exact h
  split
  · exact h
  split
  · exact h
  split
  · exact h
  split
  · exact h
  · exact h.strikes (strikeArrives_onlyStrikes _ (.refl s))

theorem counterSelect_kept (p : List Byte) (h : MotionSafe s) : MotionSafe (counterSelect p s).state := by
  unfold counterSelect
  split
  · exact h.beside rfl
  · exact h

theorem counterSnapshot_kept (p : List Byte) (h : MotionSafe s) : MotionSafe (counterSnapshot p s).state := ite_kept (h.beside rfl) h

theorem pulseEnd_kept (b : Bell) (h : MotionSafe s) : MotionSafe (pulseEnd b s) :=
  ite_kept (ite_kept (h.strikes (endPulseClean_onlyStrikes b (.refl s))) (h.strikes (openCoil_onlyStrikes b (.refl s)))) h

theorem hlimChange_kept (b : Bell) (active : Bool) (h : MotionSafe s) : MotionSafe (hlimChange b active s) :=
  ite_kept (h.beside rfl) (h.beside rfl)

theorem hprsChange_kept (b : Bell) (active : Bool) (h : MotionSafe s) : MotionSafe (hprsChange b active s) :=
  ite_kept (h.beside rfl) (h.beside rfl)

theorem presenceDeadline_kept (b : Bell) (h : MotionSafe s) : MotionSafe (presenceDeadline b s) :=
  ite_kept (ite_kept (h.beside rfl) (h.strikes (openCoil_onlyStrikes b (.refl s)))) h

theorem decayTick_kept (h : MotionSafe s) : MotionSafe (decayTick s) :=
  ite_kept (h.strikes (reportWarm_onlyStrikes (forEach_onlyStrikes (fun b _ => decayBell_onlyStrikes b) allBells (.refl s)))) h

theorem bellOffTimeEnd_kept (b : Bell) (h : MotionSafe s) : MotionSafe (bellOffTimeEnd b s) :=
  ite_kept (examineStrikes_kept (h.beside rfl)) h

theorem verifyWindowEnd_kept (b : Bell) (h : MotionSafe s) : MotionSafe (verifyWindowEnd b s) := by
  unfold verifyWindowEnd
  split
  · exact ite_kept (ite_kept (h.beside rfl) (h.strikes (verdict_onlyStrikes b _ (.refl s)))) h
  all_goals exact h

/-! ## The Supervision Unit -/

theorem setPlaying_kept (p : Presentation) (h : MotionSafe s) : MotionSafe (setPlaying p s) := by
  have hreason := h.putReason_kept .operator (p == .quiet)
  exact enterPresentation_kept p (ite_kept (hreason.owePark_kept false) hreason)

theorem setState_kept (p : List Byte) (h : MotionSafe s) : MotionSafe (setState p s).state := by
  unfold setState
  split
  iterate 4 exact h
  all_goals
    split
    · exact h
    · exact ite_kept h (owePark_kept true (h.enterPresentation_kept .still))
    · exact h.setPlaying_kept _

theorem serviceRequest_kept (p : List Byte) (h : MotionSafe s) : MotionSafe (serviceRequest p s).state := by
  unfold serviceRequest
  split
  iterate 3 exact h.enterServicePending_kept
  all_goals exact h

theorem resumeRequest_kept (p : List Byte) (h : MotionSafe s) : MotionSafe (resumeRequest p s).state := by
  unfold resumeRequest
  split
  iterate 2 exact h.cancelService_kept
  · split
    · exact h
    · exact h.leaveService_kept
  all_goals exact h

theorem hatchShowsOpen_kept (h : MotionSafe s) : MotionSafe (hatchShowsOpen s) :=
  ite_kept (h.beside rfl) (openHatch_kept (h.beside rfl))

theorem hatchCloses_kept (h : MotionSafe s) : MotionSafe (hatchCloses s) := by
  unfold hatchCloses
  split
  · exact h
  · exact ite_kept (h.beside rfl) h

theorem setCodes_kept (p : List Byte) (h : MotionSafe s) : MotionSafe (setCodes p s).state := by
  have hrestart : ∀ hush n release m mode, MotionSafe (restartCodes hush n release m mode s) := fun hush n release m mode => by
    cases mode with
    | manual => exact removeReason_kept .hush (h.beside rfl)
    | auto => exact h.beside rfl
  unfold setCodes
  dsimp only
  split
  · exact h
  split
  · exact hrestart _ _ _ _ _
  · exact h

/-! ## The Time Base -/

theorem setTime_kept (p : List Byte) (h : MotionSafe s) : MotionSafe (setTime p s).state := by
  unfold setTime
  dsimp only
  split
  · exact h.offerStep_kept _ _
  · exact h

theorem wallSecond_kept (h : MotionSafe s) : MotionSafe (wallSecond s) := by
  have hwrap : MotionSafe (calendarWrap s (s.modTb TimeBase.beginSecond)) := ite_kept (h.beside rfl) (h.beside rfl)
  exact ite_kept (ite_kept hwrap (hwrap.beside rfl)) h

theorem holdOver_kept (h : MotionSafe s) : MotionSafe (holdOver s) := by
  unfold holdOver
  split
  · exact h
  · exact ite_kept (h.beside rfl) h

theorem ppsEdge_kept (h : MotionSafe s) : MotionSafe (ppsEdge s) := by
  unfold ppsEdge
  exact ite_kept (ite_kept (h.beside rfl) (offerStep_kept _ _ (h.beside rfl))) (h.beside rfl)

theorem ppsLost_kept (h : MotionSafe s) : MotionSafe (ppsLost s) := by
  unfold ppsLost
  split
  · exact h
  · exact ite_kept (h.beside rfl) h

/-! ## The Link Port -/

theorem modLp_kept (f : LinkPort → LinkPort) (h : MotionSafe s) : MotionSafe (s.modLp f) := h.beside rfl

theorem receive_kept (r : Request) (h : MotionSafe s) : MotionSafe (receive r s) :=
  receive_keeps (P := MotionSafe) (fun f _ hu => hu.modLp_kept f) r h

theorem frameReceived_kept (h : MotionSafe s) : MotionSafe (frameReceived s) := by
  unfold frameReceived
  split
  · exact h
  · exact ite_kept (receive_kept _ (h.modLp_kept _)) h

theorem badFrame_kept (framing : Bool) (h : MotionSafe s) : MotionSafe (badFrame framing s) := by
  unfold badFrame
  split
  · exact h
  · exact ite_kept (h.beside rfl) h

theorem frameGap_kept (h : MotionSafe s) : MotionSafe (frameGap s) := by
  unfold frameGap
  split
  · exact h
  · exact ite_kept (h.beside rfl) h

theorem byteReceived_kept (b : Byte) (h : MotionSafe s) : MotionSafe (byteReceived b s) := by
  unfold byteReceived
  split
  · exact ite_kept (h.modLp_kept _) h
  · exact h.modLp_kept _

theorem transmitEnd_kept (h : MotionSafe s) : MotionSafe (transmitEnd s) := ite_kept h.softReset_kept (h.modLp_kept _)

/-! ## Commands -/

/-- The requests that read leave the state, and every other answer keeps the Motion Unit safe. -/
theorem answerOf_kept (r : Request) (h : MotionSafe s) : MotionSafe (answerOf r s).state := by
  have hseason : MotionSafe (getSeason r.payload s).state := by unfold getSeason; split <;> exact h
  have hhour : MotionSafe (getHour r.payload s).state := by unfold getHour; split <;> exact h
  have hbell : MotionSafe (getBell r.payload s).state := by unfold getBell; split <;> exact h
  have hlog : MotionSafe (readLog r.payload s).state := by unfold readLog; split <;> exact h
  have haxis : MotionSafe (getAxis r.payload s).state := by unfold getAxis; split <;> exact h
  have hdoor : MotionSafe (getDoor r.payload s).state := by unfold getDoor; split <;> exact h
  have hresult : MotionSafe (storeResult r.payload s).state := by unfold storeResult; split <;> exact h
  refine answerOf_keeps (P := fun a => MotionSafe a.state) r s ?_ h
  simp only [List.forall_mem_cons]
  exact ⟨h, h, h.setTime_kept _, h, h.setSeason_kept _, hseason, h.setHour_kept _, hhour, h.playShow_kept _, h.stopShow_kept _, h,
    h.setState_kept _, h.serviceRequest_kept _, h.resumeRequest_kept _, h.setCodes_kept _, h.strikeTest_kept _, h.selfTest_kept _, h, hbell,
    h.counterSelect_kept _, h.counterSnapshot_kept _, hlog, h.moveAxis_kept _, h.homeAxis_kept _, h.clearFault_kept _, haxis, hdoor,
    h.storeRead_kept _, h.storeWrite_kept _, h.storeErase_kept _, hresult, h.rescan_kept _, h, h.modLp_kept _, h, List.forall_mem_nil _⟩

theorem serve_kept (h : MotionSafe s) : MotionSafe (serve s) :=
  serveFor_keeps (P := MotionSafe)
    (fun r _ => take_keeps (P := MotionSafe) (fun i _ _ hu => hu.immediate_kept i) (fun f _ hu => hu.modLp_kept f)
      (fun r _ hu => hu.answerOf_kept r) r) _ s h

theorem event_gives (dt : Nat) {effect : State → State} (he : ∀ {t}, MotionSafe t → MotionSafe (effect t)) (h : MotionSafe s) :
    Gives MotionSafe (event dt effect s) :=
  ⟨_, rfl, finish_keeps (P := MotionSafe) (fun i _ _ hu => hu.immediate_kept i) (fun f _ hu => hu.modLp_kept f)
    (fun r _ hu => hu.answerOf_kept r) (he (h.beside rfl))⟩

/-- An event whose effect stands under a condition. -/
theorem eventIf_gives (dt : Nat) {c : State → Prop} [DecidablePred c] {effect : State → State}
    (he : ∀ {t}, MotionSafe t → MotionSafe (effect t)) (h : MotionSafe s) : Gives MotionSafe (event dt (fun t => if c t then effect t else t) s) :=
  event_gives dt (fun hu => ite_kept (he hu) hu) h

theorem linkEvent_gives (dt : Nat) {effect : State → State} (he : ∀ {t}, MotionSafe t → MotionSafe (effect t)) (h : MotionSafe s) :
    Gives MotionSafe (linkEvent dt effect s) :=
  ⟨_, rfl, serve_kept (arbitrate_keeps (P := MotionSafe) (fun f _ hu => hu.modLp_kept f) (he (h.beside rfl)))⟩

theorem hostRequest_gives (dt : Nat) (kind tag : Byte) (p : List Byte) (h : MotionSafe s) : Gives MotionSafe (hostRequest dt kind tag p s) :=
  linkEvent_gives dt (receive_kept _) h

/-- Every command is one form of a meaning over one effect, or the power-on reset. -/
theorem exec_gives (c : Instr) (h : MotionSafe s) : Gives MotionSafe (exec c s) := by
  cases c with
  | powerOnReset b1 b0 => exact ⟨_, rfl, powerOn_motionSafe b1 b0 s⟩
  | softReset | ident | getStatus | setTime | getTime | setSeason | getSeason | setHour | getHour | playShow | stopShow | getQueue
  | setState | service | resume | setCodes | strikeTest | selfTest | getSelfTest | getBell | counterSelect | counterSnapshot | readLog
  | moveAxis | homeAxis | clearFaultBell | clearFaultAxis | getAxis | getDoor | storeRead | storeWrite | storeErase | storeResult
  | rescan | getWalkReport | setNoticeMask => exact hostRequest_gives _ _ _ _ h
  | unknownKind dt kind tag p =>
    exact ite_kept (P := Gives MotionSafe) (linkEvent_gives dt (effect := id) id h) (hostRequest_gives dt kind tag p h)
  | frameReceived => exact linkEvent_gives _ frameReceived_kept h
  | badFrame => exact linkEvent_gives _ (badFrame_kept _) h
  | frameGapTimeout => exact linkEvent_gives _ frameGap_kept h
  | byteReceived => exact linkEvent_gives _ (byteReceived_kept _) h
  | softResetInstant dt => exact eventIf_gives dt (c := (sendingSoftResetReply ·)) softReset_kept h
  | transmitEnd => exact event_gives _ transmitEnd_kept h
  | wallSecondStart => exact event_gives _ wallSecond_kept h
  | slewHoldEnd => exact event_gives _ holdOver_kept h
  | ppsEdge => exact event_gives _ ppsEdge_kept h
  | ppsLossTimeout => exact event_gives _ ppsLost_kept h
  | nextTriggerHandled => exact event_gives _ nextTriggerHandled_kept h
  | heldLinkHeadDue dt => exact eventIf_gives dt (c := (heldHeadDue ·)) examineQueue_kept h
  | dueCountReached dt => exact eventIf_gives dt (c := (mayStart ·)) startPlaying_kept h
  | preparationLimit => exact event_gives _ (fun hu => ite_kept hu.startPlaying_kept hu) h
  | divisionInstant => exact event_gives _ divisionInstant_kept h
  | waitLimitExpiry => exact event_gives _ waitLimitExpiry_kept h
  | prefetchReadEnd => exact event_gives _ (prefetchReadEnd_kept _) h
  | stallTimeout => exact event_gives _ stallTimeout_kept h
  | codaTimeout => exact event_gives _ codaTimeout_kept h
  | supplyTimerExpiry | thermalTimerExpiry => exact event_gives _ (fun hu => ite_kept (hu.abortToIdle_kept _ _) hu) h
  | selfTestHandoff => exact event_gives _ selfTestHandoff_kept h
  | walkTransferEnd => exact event_gives _ (walkTransferEnd_kept _) h
  | walkStatusTimeout => exact event_gives _ walkStatusTimeout_kept h
  | storeTransferEnd => exact event_gives _ (storeTransferEnd_kept _) h
  | storeBusyTimeout => exact event_gives _ storeBusyTimeout_kept h
  | writeTimeout | eraseTimeout => exact event_gives _ (changeTimeout_kept _ _) h
  | strikeHeadDue | slackExpiry => exact event_gives _ (fun hu => ite_kept hu.examineStrikes_kept hu) h
  | pulseEnd _ b => exact event_gives _ (pulseEnd_kept b) h
  | recoveryEnd _ b => exact event_gives _ (fun hu => ite_kept (hu.strikes (endRecovery_onlyStrikes b (.refl _))) hu) h
  | hlimChange _ b => exact event_gives _ (hlimChange_kept b _) h
  | hprsActive _ b => exact event_gives _ (hprsChange_kept b _) h
  | overCurrent _ b => exact event_gives _ (fun hu => ite_kept (hu.strikes (bellOverCurrent_onlyStrikes b (.refl _))) hu) h
  | presenceDeadline _ b => exact event_gives _ (presenceDeadline_kept b) h
  | bellOffTimeEnd _ b => exact event_gives _ (bellOffTimeEnd_kept b) h
  | decayTick => exact event_gives _ decayTick_kept h
  | dampEnd _ b => exact event_gives _ (fun hu => ite_kept (hu.beside rfl) hu) h
  | pickupEdge _ b => exact event_gives _ (fun hu => hu.beside rfl) h
  | verifyWindowEnd _ b => exact event_gives _ (verifyWindowEnd_kept b) h
  | axisCount _ a => exact event_gives _ (fun hu => (hu.behind.countAxis_kept a).safe) h
  | reversalEnd _ a => exact event_gives _ (reversalEnd_kept a) h
  | alimChange _ a => exact event_gives _ (alimChange_kept a _) h
  | dwellEnd _ a => exact event_gives _ (dwellOver_kept a) h
  | homeSwitchChange _ a => exact event_gives _ (homeSwitchChange_kept a _) h
  | farSwitchActive _ a => exact event_gives _ (farSwitchChange_kept a _) h
  | axisStall _ a | travelTimeout _ a | axisOvercurrent _ a => exact event_gives _ (fun hu => ite_kept (hu.axisFault_kept _ a) hu) h
  | axisOffTimeEnd _ a => exact event_gives _ (axisOffTimeEnd_kept a) h
  | doorOffTimeEnd _ d => exact event_gives _ (fun hu => ite_kept (hu.modDoor_goesOn rfl id) hu) h
  | doorSwitchChange _ d => exact event_gives _ (doorSwitchChange_kept d _ _) h
  | doorTimeout _ d => exact event_gives _ (fun hu => ite_kept (hu.countedFault_kept _ _ d) hu) h
  | doorOvercurrent _ d => exact event_gives _ (fun hu => ite_kept (hu.doorOverCurrent_kept d) hu) h
  | switchLost _ d => exact event_gives _ (switchLost_kept d) h
  | servicePress => exact event_gives _ (fun hu => ite_kept (press_kept (hu.beside rfl)) hu) h
  | lampToggle => exact event_gives _ (fun hu => hu.beside rfl) h
  | hatchOpening => exact event_gives _ hatchShowsOpen_kept h
  | hatchClosed => exact event_gives _ hatchCloses_kept h
  | hatchShowsClosed => exact event_gives _ (fun hu => ite_kept (hu.beside rfl) (hu.beside rfl)) h
  | supplySample dt => exact eventIf_gives dt (c := (·.now % 1000 = 0)) (takeSample_kept _) h
  | dieReading dt => exact eventIf_gives dt (c := (·.now % 10000 = 0)) (takeDieReading_kept _) h
  | codeBlockEnd dt => exact eventIf_gives dt (c := fun t => t.sv.hushCode.blockOver || t.sv.releaseCode.blockOver) endBlocks_kept h
  | codeBit => exact event_gives _ (fun hu => ite_kept (hu.beside rfl) hu) h
  | serviceReqChange => exact event_gives _ (fun hu => ite_kept hu (hu.beside rfl)) h

/-- One step keeps the Motion Unit safe: a command does, and so does the passing of time (log entry 1). -/
theorem step_kept {t : State} (h : MotionSafe s) (hs : step s = .next t) : MotionSafe t := by
  unfold step at hs
  split at hs
  · cases hs
    exact h.beside rfl
  · next c rest _ =>
    obtain ⟨v, hv, hsafe⟩ := exec_gives c (s := s.withPending rest) (h.beside rfl)
    cases hv.symm.trans hs
    exact hsafe

end MotionSafe

/-- Settles O54, for every command and for the passing of time. -/
theorem everyStepKeepsMotionSafe : Obligations.EveryStepKeepsMotionSafe := fun _ _ h hs => h.step_kept hs

end Sys2Proof.Machine
end

section
/-! SUPPORT. The next trigger where the programmes are emptied (R25 to R27), the flush of the show queue (R35), the tower as the part
becomes LOCKED (R52, R153, R157, R163), and the arbiter's grants as a RESCAN is taken (R42, R54, R60). -/

namespace Sys2Proof.Machine

variable {s t : State}

/-! ## Triggers without programmes (R25 to R27) -/

/-- The programme table as the start of a walk leaves it (R39). -/
def ProgrammesEmpty (s : State) : Prop := s.su.programmes = Vector.replicate 8 (Vector.replicate 24 HourEntry.empty)

theorem ProgrammesEmpty.triggerEntry_eq (h : ProgrammesEmpty s) (t : Nat) : triggerEntry s t = HourEntry.empty := by
  unfold ProgrammesEmpty at h
  simp only [triggerEntry, h, Vector.getElem?_replicate]
  by_cases hprogramme : (seasonOfDay s (triggerDay t)).2 < 8 <;> by_cases hhour : triggerHour t < 24 <;> simp [hprogramme, hhour]

theorem ProgrammesEmpty.triggerShow_eq (h : ProgrammesEmpty s) (t : Nat) : triggerShow s t = none := by
  simp only [triggerShow, h.triggerEntry_eq, HourEntry.empty, ite_self]

/-- A trigger without a show posts at its due instant. -/
theorem ProgrammesEmpty.postingOf_eq (h : ProgrammesEmpty s) (t : Nat) : postingOf s t = t * 900000000 := by
  simp [postingOf, h.triggerShow_eq, prerollOf, dueOf]

/-- Handling it moves the record alone. -/
theorem ProgrammesEmpty.handleTrigger_eq (h : ProgrammesEmpty s) (t : Nat) : handleTrigger t s = setRecord (.named t) s := by
  simp only [handleTrigger, judgeTrigger, h.triggerShow_eq]

/-- The first trigger after a record, where each posts at its due instant. -/
def TriggerRecord.next : TriggerRecord → Nat
  | .named t => t + 1
  | .clearSince r => r / 900000000 + 1

theorem ProgrammesEmpty.afterRecord_eq (h : ProgrammesEmpty s) : afterRecord s = s.su.record.next := by
  unfold afterRecord TriggerRecord.next
  cases s.su.record with
  | named t => rfl
  | clearSince r =>
    have hposts : r < postingOf s (r / 900000000 + 1) := by rw [h.postingOf_eq]; omega
    simp only [firstPostingAfter, if_pos hposts]

theorem ProgrammesEmpty.lastPostingBy_eq (h : ProgrammesEmpty s) (r : Nat) : lastPostingBy s r = r / 900000000 := by
  have hlater : ¬ postingOf s (r / 900000000 + 1) ≤ r := by rw [h.postingOf_eq]; omega
  simp only [lastPostingBy, if_neg hlater]

/-- The last trigger of the calendar (R2) that a reading has reached. -/
def lastReached (reading : Nat) : Nat := min (reading / 900000000) 3506399

/-- The next trigger is handled exactly where it is one of those reached. -/
theorem ProgrammesEmpty.nextTriggerHandled_eq (h : ProgrammesEmpty s) :
    nextTriggerHandled s =
      if s.tb.timeSet = true ∧ s.su.record.next ≤ lastReached s.tb.reading then setRecord (.named s.su.record.next) s else s := by
  have hspan : Config.spanTriggers = 3506400 := rfl
  have hdue : dueTrigger s =
      if s.tb.timeSet = true ∧ s.su.record.next ≤ lastReached s.tb.reading then some s.su.record.next else none := by
    unfold dueTrigger nextTrigger lastReached
    rw [h.afterRecord_eq, hspan]
    by_cases hset : s.tb.timeSet = true ∧ s.su.record.next < 3506400
    · rw [if_pos hset, Option.filter_some, h.postingOf_eq]
      simp only [decide_eq_true_eq]
      congr 1
      simp only [hset.1, true_and, eq_iff_iff]
      omega
    · rw [if_neg hset, Option.filter_none, if_neg]
      rintro ⟨hs, hle⟩
      exact hset ⟨hs, by omega⟩
  rw [nextTriggerHandled, hdue]
  split_ifs
  · show examineNewHead s (handleTrigger _ s) = _
    rw [h.handleTrigger_eq]
    exact if_pos rfl
  · rfl

/-- Handling enough triggers puts the record at the last one reached (R27). -/
theorem ProgrammesEmpty.handleTriggers_eq : ∀ (n : Nat) {s : State}, ProgrammesEmpty s →
    (s.tb.timeSet = true → lastReached s.tb.reading < s.su.record.next + n) →
    handleTriggers n s =
      setRecord (if s.tb.timeSet = true ∧ s.su.record.next ≤ lastReached s.tb.reading then .named (lastReached s.tb.reading)
        else s.su.record) s
  | 0, s, _, hn => by
    rw [if_neg fun ⟨hset, hle⟩ => absurd (hn hset) (by omega)]
    rfl
  | n + 1, s, h, hn => by
    rw [handleTriggers, h.nextTriggerHandled_eq]
    by_cases hnext : s.tb.timeSet = true ∧ s.su.record.next ≤ lastReached s.tb.reading
    · obtain ⟨hset, hle⟩ := hnext
      have hmoved : (setRecord (.named s.su.record.next) s).su.record.next = s.su.record.next + 1 := rfl
      have htb : (setRecord (.named s.su.record.next) s).tb = s.tb := rfl
      have hfuel := hn hset
      rw [if_pos ⟨hset, hle⟩, if_pos ⟨hset, hle⟩,
        handleTriggers_eq n (s := setRecord (.named s.su.record.next) s) h fun _ => by rw [hmoved, htb]; omega, hmoved, htb]
      by_cases hmore : s.su.record.next + 1 ≤ lastReached s.tb.reading
      · rw [if_pos ⟨hset, hmore⟩]
        rfl
      · rw [if_neg fun hm => hmore hm.2, show lastReached s.tb.reading = s.su.record.next by omega]
        rfl
    · rw [if_neg hnext, handleTriggers_eq n h fun hset => not_le.mp fun hle => hnext ⟨hset, by omega⟩]

/-- Recomputing the next trigger does. -/
theorem ProgrammesEmpty.recomputeTrigger_eq (h : ProgrammesEmpty s) :
    recomputeTrigger s =
      setRecord (if s.tb.timeSet = true ∧ s.su.record.next ≤ lastReached s.tb.reading then .named (lastReached s.tb.reading)
        else s.su.record) s := by
  refine h.handleTriggers_eq _ fun hset => ?_
  have hspan : Config.spanTriggers = 3506400 := rfl
  simp only [triggersReached, nextTrigger, h.afterRecord_eq, hset, hspan, true_and, lastReached]
  by_cases hin : s.su.record.next < 3506400
  · simp only [if_pos hin, h.lastPostingBy_eq]
    omega
  · simp only [if_neg hin]
    omega

/-! ## The show queue (R35) -/

theorem forEach_countSuppressed : ∀ (l : List ShowRequest) (s : State),
    forEach (fun _ => countSuppressed) l s = modCounters (fun c => { c with suppressed := Nat.iterate satInc l.length c.suppressed }) s
  | [], _ => rfl
  | _ :: l, s => by
    rw [forEach, forEach_countSuppressed l]
    rfl

/-- A flush counts each request SUPPRESSED. -/
theorem flushQueue_eq (s : State) :
    flushQueue s = s.modSu fun x =>
      { x with
        queue := []
        counters := { x.counters with suppressed := Nat.iterate satInc x.queue.length x.counters.suppressed } } := by
  rw [flushQueue, forEach_countSuppressed]
  rfl

/-! ## The tower as the part becomes LOCKED (R153, R157, R163) -/

/-- Updates that agree with one update of each door's record change every door by it. `P` holds throughout. -/
theorem forEach_door {P : State → Prop} {f : Axis → State → State} {g : Axis → DoorRecord → DoorRecord}
    (hf : ∀ d {t}, P t → f d t = t.modDoor d (g d)) (hP : ∀ d {t}, P t → P (t.modDoor d (g d))) (x : Axis) :
    ∀ (l : List Axis) {s : State}, P s → l.Nodup → (forEach f l s).door x = if x ∈ l then g x (s.door x) else s.door x
  | [], _, _, _ => rfl
  | d :: l, s, hs, hn => by
    obtain ⟨hd, hl⟩ := List.nodup_cons.mp hn
    rw [forEach, hf d hs, forEach_door hf hP x l (hP d hs) hl, modDoor_door]
    by_cases hx : x = d
    · subst hx; simp [hd]
    · simp [hx]

/-- Nothing but the doors' records differs. -/
def DoorsDiffer (s t : State) : Prop := ∃ doors, t = s.modMu fun x => { x with doors := doors }

theorem DoorsDiffer.modDoor (d : Axis) (f : DoorRecord → DoorRecord) (h : DoorsDiffer s t) : DoorsDiffer s (t.modDoor d f) := by
  obtain ⟨doors, rfl⟩ := h
  exact ⟨_, rfl⟩

/-- The axis members that follow, and the demand they may leave (R158). -/
def DoorRecord.follow (isDoor : Bool) (m : AxisSet) (r : DoorRecord) : DoorRecord :=
  if isDoor then
    { r with
      members := m
      close := if r.members != 0 && m == 0 && !r.pe && !r.link && r.close.isNone then some .door else r.close }
  else { r with members := 0 }

theorem syncMembers_eq (d : Axis) (s : State) : syncMembers d s = s.modDoor d (·.follow (s.isDoor d) (axisMembers s d)) := by
  unfold syncMembers DoorRecord.follow
  cases s.isDoor d <;> rfl

theorem syncMembers_differs (d : Axis) (h : DoorsDiffer s t) : DoorsDiffer s (syncMembers d t) := by
  rw [syncMembers_eq]
  exact h.modDoor d _

/-- What each door follows and reads does not depend on the other doors. -/
theorem doorsRead_door (d : Axis) (s : State) :
    (forEach readDoor allAxes (forEach syncMembers allAxes s)).door d =
      ((s.door d).follow (s.isDoor d) (axisMembers s d)).read (openSwitch s d) (closedSwitch s d) s.now := by
  have hsync : DoorsDiffer s (forEach syncMembers allAxes s) :=
    forEach_keeps (P := DoorsDiffer s) (f := syncMembers) (fun d _ => syncMembers_differs d) allAxes s ⟨_, rfl⟩
  have hfollow := forEach_door (P := DoorsDiffer s) (f := syncMembers) (g := fun d => DoorRecord.follow (s.isDoor d) (axisMembers s d))
    (fun d t h => by obtain ⟨doors, rfl⟩ := h; rw [syncMembers_eq]; rfl) (fun d _ => DoorsDiffer.modDoor d _) d allAxes
    (s := s) ⟨_, rfl⟩ (by decide)
  rw [forEach_door (P := DoorsDiffer s) (g := fun d => DoorRecord.read (openSwitch s d) (closedSwitch s d) s.now)
      (fun d t h => by obtain ⟨doors, rfl⟩ := h; rfl) (fun d _ => DoorsDiffer.modDoor d _) d allAxes hsync (by decide),
    hfollow, if_pos (mem_allAxes d), if_pos (mem_allAxes d)]

/-- Nothing but the axes' records differs, and each of those listed is locked. -/
theorem lockAxes_gives (s : State) :
    ∃ axes, forEach (fun a s => s.modAxis a (·.lock)) allAxes s = s.modMu (fun x => { x with axes := axes }) ∧
      ∀ a : Axis, axes[a] = (s.axis a).lock := by
  obtain ⟨axes, he⟩ := forEach_keeps (P := fun t => ∃ axes, t = s.modMu fun x => { x with axes := axes })
    (f := fun a s => s.modAxis a (·.lock)) (fun a t ⟨axes, h⟩ => by subst h; exact ⟨_, rfl⟩) allAxes s ⟨_, rfl⟩
  refine ⟨axes, he, fun a => ?_⟩
  have hlock := forEach_modAxis AxisRecord.lock a allAxes s (by decide)
  rw [if_pos (mem_allAxes a), he] at hlock
  exact hlock

/-- The Motion Unit alone differs, every axis is locked and every door read. -/
theorem lockedTower_gives (s : State) :
    ∃ mu : MotionUnit, lockedTower s = s.modMu (fun _ => mu) ∧ (∀ a : Axis, mu.axes[a] = (s.axis a).lock) ∧
      ∀ d : Axis, mu.doors[d] =
        ((s.door d).follow (s.isDoor d) (setOf (fun a => s.isGuarded d a && !homeActive s a) allAxes)).read
          (openSwitch s d) (closedSwitch s d) s.now := by
  obtain ⟨axes, haxes, hlock⟩ := lockAxes_gives s
  have hdoors : DoorsDiffer (s.modMu fun x => { x with axes := axes }) (lockedTower s) := by
    rw [lockedTower, haxes]
    exact forEach_keeps (P := DoorsDiffer _) (f := readDoor) (fun d _ h => h.modDoor d _) allAxes _
      (forEach_keeps (P := DoorsDiffer _) (f := syncMembers) (fun d _ => syncMembers_differs d) allAxes _ ⟨_, rfl⟩)
  obtain ⟨doors, hdoors⟩ := hdoors
  refine ⟨⟨axes, doors⟩, hdoors, hlock, fun d => ?_⟩
  have hread := doorsRead_door d (s.modMu fun x => { x with axes := axes })
  rw [← haxes, ← lockedTower, hdoors, haxes] at hread
  have hwait : ∀ a : Axis, (axes[a].state == AxisState.waitDoor) = false := fun a => by rw [hlock a]; rfl
  have hmembers : axisMembers (s.modMu fun x => { x with axes := axes }) d =
      setOf (fun a => s.isGuarded d a && !homeActive s a) allAxes := by
    refine congrArg (setOf · allAxes) (funext fun a => ?_)
    show (s.isGuarded d a && (axes[a].state == AxisState.waitDoor || !homeActive s a)) = _
    rw [hwait a, Bool.false_or]
  rw [hmembers] at hread
  exact hread

theorem lockedTower_sv (s : State) : (lockedTower s).sv = s.sv := by
  obtain ⟨mu, he, -⟩ := lockedTower_gives s
  rw [he]
  rfl

/-- The presentation states that become LOCKED with the part (R184). -/
def Presentation.endsInLocked : Presentation → Bool
  | .run | .quiet | .still => true
  | .locked | .servicePending | .serviceReady | .service => false

theorem becomeLocked_eq (s : State) :
    becomeLocked s =
      if s.sv.presentation.endsInLocked then enterPresentation .locked (owePark false (lockedTower s))
      else owePark false (lockedTower s) := by
  have hp : (owePark false (lockedTower s)).sv.presentation = s.sv.presentation := congrArg (·.presentation) (lockedTower_sv s)
  rw [← hp]
  unfold becomeLocked lockedTower
  dsimp only
  split <;> rename_i hstate <;> rw [hstate]
  iterate 3 exact (if_pos rfl).symm
  iterate 4 exact (if_neg (by decide)).symm

/-! ## A RESCAN in the Library Unit (R42, R43, R54) -/

/-- The RESCAN operation, in flight while its walk runs. -/
def StoreOp.rescan : StoreOp := ⟨.rescan, 0, 0, [], .walking⟩

/-- The Library Unit as the operation is taken and the walk starts, before the walk is granted the port. -/
def LibraryUnit.rescanStarted (x : LibraryUnit) : LibraryUnit :=
  { { x with storeOp := some StoreOp.rescan, storeResult := none }.grant with
    dirState := .scanning
    directory := []
    poseLists := Vector.replicate 32 none
    report := WalkReport.start
    walk := some Walk.start }

/-- The operation asks for no transfer of its own; the walk's first status read is granted a free port. -/
theorem LibraryUnit.rescanStarted_grant {x : LibraryUnit} (hw : x.walk = none) :
    ∃ (port : Option PortUse) (reads : List FetchRead),
      x.rescanStarted.grant =
        { x with
          dirState := .scanning
          directory := []
          poseLists := Vector.replicate 32 none
          report := WalkReport.start
          walk := some Walk.start
          storeOp := some StoreOp.rescan
          storeResult := none
          port := port
          prefetch := reads } ∧
        (x.prefetch = [] → reads = [] ∧ port = some (x.port.getD ⟨.walk, .readStatus, false⟩)) := by
  cases hport : x.port with
  | some use => exact ⟨some use, x.prefetch, by simp [rescanStarted, grant, hport], fun hnone => ⟨hnone, rfl⟩⟩
  | none =>
    cases hreads : x.prefetch with
    | nil =>
      exact ⟨some ⟨.walk, .readStatus, false⟩, [],
        by simp [rescanStarted, grant, hport, hw, hreads, StoreOp.rescan, StoreOp.transfer, Walk.start, WalkPhase.transfer], by simp⟩
    | cons r rest =>
      exact ⟨some ⟨.prefetch, .read r.address r.length, false⟩, rest, by simp [rescanStarted, grant, hport, hw, hreads], by simp⟩

end Sys2Proof.Machine
end

section
/-! SUPPORT. The four store requests (R54 to R57, R60). -/

namespace Sys2Proof.Machine

variable {s t : State}

/-! ## Acceptance -/

theorem storeBusy_free (hop : s.lu.storeOp = none) (hw : s.lu.walk = none) : storeBusy s = false := by
  rw [storeBusy, hop, hw]
  rfl

theorem storeRead_accepts {p : List Byte} (hop : s.lu.storeOp = none) (hw : s.lu.walk = none) (h1 : 1 ≤ byteAt p 4)
    (h128 : byteAt p 4 ≤ 128) (hend : numAt p 0 4 + byteAt p 4 ≤ 16777216) :
    storeRead p s = ⟨.accepted, [], takeStoreOp ⟨.read, numAt p 0 4, byteAt p 4, [], .poll none⟩ s⟩ := by
  have hsize : Config.storeSize = 16777216 := rfl
  simp only [storeRead, storeBusy_free hop hw, Bool.false_eq_true, if_false]
  exact if_pos (by omega)

theorem storeWrite_accepts {p : List Byte} (hop : s.lu.storeOp = none) (hw : s.lu.walk = none) (hidle : s.pe.engine = .idle)
    (h1 : 1 ≤ byteAt p 4) (h128 : byteAt p 4 ≤ 128) (hpage : numAt p 0 4 % 256 + byteAt p 4 ≤ 256) (ha : numAt p 0 4 < 16777216) :
    storeWrite p s = ⟨.accepted, [], takeStoreOp ⟨.write, numAt p 0 4, byteAt p 4, p.drop 5, .poll none⟩ s⟩ := by
  simp only [storeWrite, storeBusy_free hop hw, engineIdle_of_idle hidle, Bool.not_true, Bool.false_eq_true, if_false]
  exact if_pos ⟨h1, h128, hpage, ha⟩

theorem storeErase_accepts {p : List Byte} (hop : s.lu.storeOp = none) (hw : s.lu.walk = none) (hidle : s.pe.engine = .idle)
    (hsector : numAt p 0 4 % 4096 = 0) (ha : numAt p 0 4 < 16777216) :
    storeErase p s = ⟨.accepted, [], takeStoreOp ⟨.erase, numAt p 0 4, 4096, [], .poll none⟩ s⟩ := by
  simp only [storeErase, storeBusy_free hop hw, engineIdle_of_idle hidle, Bool.not_true, Bool.false_eq_true, if_false]
  exact if_pos ⟨hsector, ha⟩

theorem rescan_accepts (p : List Byte) (hop : s.lu.storeOp = none) (hw : s.lu.walk = none) (hidle : s.pe.engine = .idle) :
    rescan p s = ⟨.accepted, [], beginRescan s⟩ := by
  simp only [rescan, storeBusy_free hop hw, engineIdle_of_idle hidle, Bool.not_true, Bool.false_eq_true, if_false]

/-! ## RESCAN (R43, R52, R60) -/

/-- The state as the walk starts, before the part becomes LOCKED in its other units. -/
def walkStarted (s : State) : State := emptyTables (s.modLu LibraryUnit.rescanStarted)

theorem beginRescan_eq (s : State) :
    beginRescan s = grantPort (recomputeTrigger (if s.partLocked then walkStarted s else becomeLocked (walkStarted s))) := by
  rw [beginRescan]
  cases s.partLocked <;> rfl

/-- The working profile stays (R43), and with it every axis's. -/
theorem walkStarted_axisProfile (s : State) : (walkStarted s).axisProfile = s.axisProfile := by
  have hprofile : (walkStarted s).lu.profile = s.lu.profile :=
    grant_profile { s.lu with storeOp := some StoreOp.rescan, storeResult := none }
  funext a
  rw [State.axisProfile, hprofile, State.axisProfile]

theorem walkStarted_isDoor (s : State) (d : Axis) : (walkStarted s).isDoor d = s.isDoor d := by
  rw [State.isDoor, walkStarted_axisProfile, State.isDoor]

theorem walkStarted_isGuarded (s : State) (d a : Axis) : (walkStarted s).isGuarded d a = s.isGuarded d a := by
  simp only [State.isGuarded, State.isFigure, State.guardDoor, walkStarted_axisProfile]

/-- The record after a RESCAN (R27, R39). -/
def rescanRecord (s : State) : TriggerRecord :=
  if s.tb.timeSet = true ∧ s.su.record.next ≤ lastReached s.tb.reading then .named (lastReached s.tb.reading) else s.su.record

/-- The Schedule Unit after a RESCAN that leaves the queue. -/
def rescanSchedule (s : State) : ScheduleUnit :=
  { s.su with
    record := rescanRecord s
    seasons := Vector.replicate 16 SeasonEntry.empty
    programmes := Vector.replicate 8 (Vector.replicate 24 HourEntry.empty) }

/-- Where the Time Base, the programmes and the record are those of the walk's start, a RESCAN ends with the record and a grant. -/
theorem rescan_ends (htb : t.tb = s.tb) (hprogrammes : t.su.programmes = (walkStarted s).su.programmes)
    (hrecord : t.su.record = s.su.record) :
    grantPort (recomputeTrigger t) = grantPort (setRecord (rescanRecord s) t) := by
  rw [ProgrammesEmpty.recomputeTrigger_eq hprogrammes, htb, hrecord]
  rfl

/-- A RESCAN of a LOCKED part. -/
theorem beginRescan_locked (h : s.partLocked = true) :
    beginRescan s = { s with lu := s.lu.rescanStarted.grant, su := rescanSchedule s } := by
  rw [beginRescan_eq, if_pos h]
  exact Eq.trans (rescan_ends (s := s) rfl rfl rfl) rfl

/-- A RESCAN of a part that was not: the tower stands, and the queue is flushed where the presentation state becomes LOCKED. -/
theorem beginRescan_ready (h : s.partLocked = false) :
    beginRescan s =
      { s with
        lu := s.lu.rescanStarted.grant
        mu := (lockedTower (walkStarted s)).mu
        sv := if s.sv.presentation.endsInLocked then { s.sv with presentation := .locked, parkOwed := false }
          else { s.sv with parkOwed := false }
        su := if s.sv.presentation.endsInLocked then (flushQueue { s with su := rescanSchedule s }).su else rescanSchedule s } := by
  obtain ⟨mu, htower, -⟩ := lockedTower_gives (walkStarted s)
  have hsv : (walkStarted s).sv = s.sv := rfl
  rw [beginRescan_eq, h, if_neg Bool.false_ne_true, becomeLocked_eq, htower, hsv]
  split
  · rw [enterPresentation, flushQueue_eq, flushQueue_eq]
    exact Eq.trans (rescan_ends (s := s) rfl rfl rfl) rfl
  · exact Eq.trans (rescan_ends (s := s) rfl rfl rfl) rfl

theorem beginRescan_axis (h : s.partLocked = false) (a : Axis) : (beginRescan s).axis a = (s.axis a).lock := by
  obtain ⟨mu, htower, haxes, -⟩ := lockedTower_gives (walkStarted s)
  rw [beginRescan_ready h, htower]
  exact haxes a

theorem beginRescan_door (h : s.partLocked = false) (d : Axis) :
    (beginRescan s).door d =
      ((s.door d).follow (s.isDoor d) (setOf (fun a => s.isGuarded d a && !homeActive s a) allAxes)).read
        (openSwitch s d) (closedSwitch s d) s.now := by
  obtain ⟨mu, htower, -, hdoors⟩ := lockedTower_gives (walkStarted s)
  have hread := hdoors d
  simp only [walkStarted_isDoor, walkStarted_isGuarded] at hread
  rw [beginRescan_ready h, htower]
  exact hread

/-- The Library, Schedule, Motion and Supervision Units alone change, the first as the grants leave it. -/
theorem beginRescan_gives (s : State) :
    ∃ su mu sv, beginRescan s = { s with lu := s.lu.rescanStarted.grant, su := su, mu := mu, sv := sv } := by
  cases h : s.partLocked with
  | true => exact ⟨_, _, _, beginRescan_locked h⟩
  | false => exact ⟨_, _, _, beginRescan_ready h⟩

/-- The state of a door read (R157), from its two switches. -/
theorem DoorRecord.follow_read (isDoor isOpen isClosed : Bool) (m : AxisSet) (now : Nat) (r : DoorRecord) :
    (r.follow isDoor m).read isOpen isClosed now =
      { state := if isOpen = isClosed then .fault else if isOpen then .open else .closed
        members := if isDoor then m else 0
        pe := false
        link := false
        close := none
        faultCount := 0
        lastFault := if isOpen = isClosed then some ⟨.switches, now, none⟩ else r.lastFault
        offEnd := none
        release := !isOpen && !isClosed
        drive := none
        tripAt := none
        openLost := none } := by
  cases isDoor <;> cases isOpen <;> cases isClosed <;> rfl

/-- Settles O12: the three requests by their checks, and RESCAN by whether the part was LOCKED. -/
theorem storeRequestsAreAccepted : Obligations.StoreRequestsAreAccepted := by
  intro dt tag s u hu h hop hw
  refine ⟨fun p hp h1 h128 hend => ?_, fun p hp hidle h1 h128 hpage ha => ?_, fun p hp hidle hsector ha => ?_, fun hidle => ?_⟩
  · have hf : lengthFits 0x1C p = true := by simp [lengthFits, requiredLength, hp]
    exact ask_answers hu h hf rfl (storeRead_accepts hop hw h1 h128 hend)
  · have hf : lengthFits 0x1D p = true := by simp [lengthFits, requiredLength, hp]
    exact ask_answers hu h hf rfl (storeWrite_accepts hop hw hidle h1 h128 hpage ha)
  · have hf : lengthFits 0x1E p = true := by simp [lengthFits, requiredLength, hp]
    exact ask_answers hu h hf rfl (storeErase_accepts hop hw hidle hsector ha)
  · obtain ⟨su, mu, sv, he⟩ := beginRescan_gives u
    refine ⟨beginRescan u, act_answers hu h rfl rfl rfl (rescan_accepts [] hop hw hidle), by rw [he], by rw [he], by rw [he],
      by rw [he], by rw [he], ?_, fun hlocked => ?_, fun hready => ⟨fun hp => ?_, fun hp => ?_, ?_, ?_⟩⟩
    · rw [he]
      exact LibraryUnit.rescanStarted_grant hw
    · rw [beginRescan_locked hlocked]
      exact ⟨rfl, rfl, rfl⟩
    · have hends : u.sv.presentation.endsInLocked = true := by rcases hp with hp | hp | hp <;> rw [hp] <;> rfl
      rw [beginRescan_ready hready, if_pos hends, if_pos hends, flushQueue_eq]
      exact ⟨rfl, rfl⟩
    · have hstays : ¬u.sv.presentation.endsInLocked = true := by
        revert hp
        cases u.sv.presentation <;> decide
      rw [beginRescan_ready hready, if_neg hstays, if_neg hstays]
      exact ⟨rfl, rfl⟩
    · exact beginRescan_axis hready
    · rintro d _ _ rfl rfl
      rw [beginRescan_door hready, DoorRecord.follow_read]
      rfl

end Sys2Proof.Machine
end
